-- ==== Sys2Proof/Word.lean ====
section
/-! DEFINITION. The two widths of the block: 8-bit data and 16-bit addresses and pairs
(spec/00_scope.md R6). Nothing else stands here; every helper on them is in a file of the machine. -/

namespace Sys2Proof

/-- An 8-bit value: register contents, a byte on the bus (R6, R8). -/
abbrev Byte := BitVec 8

/-- A 16-bit value: an address, PC, SP, a register pair (R6, R8). -/
abbrev Word := BitVec 16

end Sys2Proof
end

