-- ==== Sys2Proof/Syntax.lean ====
section
/-! DEFINITION. The syntax: the operand selectors of spec/30_encoding.md R104 to R110, one constructor of `Instr`
per row of spec/opcode_table.json (the 256 base and the 256 CB entries of R111 and R113), and the family view `Form`
of the same 512 instructions, which the shared definitions and the statements use. Immediates are no part of an
`Instr`: the machine fetches them with the instruction's later segments (R151); `Code` (WellFormed.lean) holds them. -/

namespace Sys2Proof

/-- The register operands of the selector `r` (R104), the value 6 `(HL)` apart. -/
inductive Reg8 where
  | a | b | c | d | e | h | l
  deriving DecidableEq, Repr

/-- The pair selector `dd` / `ss` (R105). -/
inductive Pair16 where
  | bc | de | hl | sp
  deriving DecidableEq, Repr

/-- The two pairs that address memory for A (R205, R206). -/
inductive IndPair where
  | bc | de
  deriving DecidableEq, Repr

/-- The pair selector `qq` of PUSH and POP (R106). -/
inductive StackPair where
  | bc | de | hl | af
  deriving DecidableEq, Repr

/-- The condition selector `cc` (R107). -/
inductive Cond where
  | nz | z | nc | c
  deriving DecidableEq, Repr

/-- The accumulator operations (R109), in the order of the field `y`. -/
inductive AluOp where
  | add | adc | sub | sbc | and | xor | or | cp
  deriving DecidableEq, Repr

/-- The rotate and shift operations (R110), in the order of the field `y`. -/
inductive RotOp where
  | rlc | rrc | rl | rr | sla | sra | swap | srl
  deriving DecidableEq, Repr

/-- A 3-bit field value: a bit index `b` (R102) or the `y` of an RST (R365). -/
inductive Oct where
  | o0 | o1 | o2 | o3 | o4 | o5 | o6 | o7
  deriving DecidableEq, Repr

/-- The eleven base opcodes without an assigned implementation (R116), by their opcode. -/
inductive Undef where
  | xD3 | xDB | xDD | xE3 | xE4 | xEB | xEC | xED | xF4 | xFC | xFD
  deriving DecidableEq, Repr

/-- The 512 instructions of the two decode tables, by family and operand: one constructor per rule (or shared
rule) of spec/41 to 48. -/
inductive Form where
  | nop | halt | stop | di | ei | prefixCB
  | undef (u : Undef)
  | ldRegReg (dst src : Reg8)
  | ldRegImm (dst : Reg8)
  | ldRegHl (dst : Reg8)
  | ldHlReg (r : Reg8)
  | ldHlImm
  | ldAInd (p : IndPair)
  | ldIndA (p : IndPair)
  | ldAHlInc | ldAHlDec | ldHlIncA | ldHlDecA
  | ldAAbs | ldAbsA | ldhAImm | ldhImmA | ldAC | ldCA
  | ldPairImm (p : Pair16)
  | ldAbsSp | ldSpHl
  | push (q : StackPair)
  | pop (q : StackPair)
  | aluReg (op : AluOp) (r : Reg8)
  | aluHl (op : AluOp)
  | aluImm (op : AluOp)
  | incReg (r : Reg8)
  | incHl
  | decReg (r : Reg8)
  | decHl
  | daa | cpl | scf | ccf
  | addHl (p : Pair16)
  | incPair (p : Pair16)
  | decPair (p : Pair16)
  | addSp | ldHlSp
  | rlca | rrca | rla | rra
  | rotReg (op : RotOp) (r : Reg8)
  | rotHl (op : RotOp)
  | bitReg (b : Oct) (r : Reg8)
  | bitHl (b : Oct)
  | resReg (b : Oct) (r : Reg8)
  | resHl (b : Oct)
  | setReg (b : Oct) (r : Reg8)
  | setHl (b : Oct)
  | jp
  | jpCc (cc : Cond)
  | jpHl | jr
  | jrCc (cc : Cond)
  | call
  | callCc (cc : Cond)
  | rst (t : Oct)
  | ret
  | retCc (cc : Cond)
  | reti
  deriving DecidableEq, Repr

/-- The instructions: one constructor per row of spec/opcode_table.json, base table first (R111), CB table after
(R113). `prefixCB` is the base table's entry for 0xCB (R388); `undefXX` are the entries of R116. -/
inductive Instr where
  | nop | ldBcN16 | ldAtBcA | incBc | incB | decB | ldBN8 | rlca
  | ldAtN16Sp | addHlBc | ldAAtBc | decBc | incC | decC | ldCN8 | rrca
  | stop | ldDeN16 | ldAtDeA | incDe | incD | decD | ldDN8 | rla
  | jrE8 | addHlDe | ldAAtDe | decDe | incE | decE | ldEN8 | rra
  | jrNzE8 | ldHlN16 | ldAtHlIncA | incHl | incH | decH | ldHN8 | daa
  | jrZE8 | addHlHl | ldAAtHlInc | decHl | incL | decL | ldLN8 | cpl
  | jrNcE8 | ldSpN16 | ldAtHlDecA | incSp | incAtHl | decAtHl | ldAtHlN8 | scf
  | jrCE8 | addHlSp | ldAAtHlDec | decSp | incA | decA | ldAN8 | ccf
  | ldBB | ldBC | ldBD | ldBE | ldBH | ldBL | ldBAtHl | ldBA
  | ldCB | ldCC | ldCD | ldCE | ldCH | ldCL | ldCAtHl | ldCA
  | ldDB | ldDC | ldDD | ldDE | ldDH | ldDL | ldDAtHl | ldDA
  | ldEB | ldEC | ldED | ldEE | ldEH | ldEL | ldEAtHl | ldEA
  | ldHB | ldHC | ldHD | ldHE | ldHH | ldHL | ldHAtHl | ldHA
  | ldLB | ldLC | ldLD | ldLE | ldLH | ldLL | ldLAtHl | ldLA
  | ldAtHlB | ldAtHlC | ldAtHlD | ldAtHlE | ldAtHlH | ldAtHlL | halt | ldAtHlA
  | ldAB | ldAC | ldAD | ldAE | ldAH | ldAL | ldAAtHl | ldAA
  | addAB | addAC | addAD | addAE | addAH | addAL | addAAtHl | addAA
  | adcAB | adcAC | adcAD | adcAE | adcAH | adcAL | adcAAtHl | adcAA
  | subB | subC | subD | subE | subH | subL | subAtHl | subA
  | sbcAB | sbcAC | sbcAD | sbcAE | sbcAH | sbcAL | sbcAAtHl | sbcAA
  | andB | andC | andD | andE | andH | andL | andAtHl | andA
  | xorB | xorC | xorD | xorE | xorH | xorL | xorAtHl | xorA
  | orB | orC | orD | orE | orH | orL | orAtHl | orA
  | cpB | cpC | cpD | cpE | cpH | cpL | cpAtHl | cpA
  | retNz | popBc | jpNzN16 | jpN16 | callNzN16 | pushBc | addAN8 | rst00
  | retZ | ret | jpZN16 | prefixCB | callZN16 | callN16 | adcAN8 | rst08
  | retNc | popDe | jpNcN16 | undefD3 | callNcN16 | pushDe | subN8 | rst10
  | retC | reti | jpCN16 | undefDB | callCN16 | undefDD | sbcAN8 | rst18
  | ldhAtN8A | popHl | ldAtCA | undefE3 | undefE4 | pushHl | andN8 | rst20
  | addSpE8 | jpHl | ldAtN16A | undefEB | undefEC | undefED | xorN8 | rst28
  | ldhAAtN8 | popAf | ldAAtC | di | undefF4 | pushAf | orN8 | rst30
  | ldHlSpE8 | ldSpHl | ldAAtN16 | ei | undefFC | undefFD | cpN8 | rst38
  | rlcB | rlcC | rlcD | rlcE | rlcH | rlcL | rlcAtHl | rlcA
  | rrcB | rrcC | rrcD | rrcE | rrcH | rrcL | rrcAtHl | rrcA
  | rlB | rlC | rlD | rlE | rlH | rlL | rlAtHl | rlA
  | rrB | rrC | rrD | rrE | rrH | rrL | rrAtHl | rrA
  | slaB | slaC | slaD | slaE | slaH | slaL | slaAtHl | slaA
  | sraB | sraC | sraD | sraE | sraH | sraL | sraAtHl | sraA
  | swapB | swapC | swapD | swapE | swapH | swapL | swapAtHl | swapA
  | srlB | srlC | srlD | srlE | srlH | srlL | srlAtHl | srlA
  | bit0B | bit0C | bit0D | bit0E | bit0H | bit0L | bit0AtHl | bit0A
  | bit1B | bit1C | bit1D | bit1E | bit1H | bit1L | bit1AtHl | bit1A
  | bit2B | bit2C | bit2D | bit2E | bit2H | bit2L | bit2AtHl | bit2A
  | bit3B | bit3C | bit3D | bit3E | bit3H | bit3L | bit3AtHl | bit3A
  | bit4B | bit4C | bit4D | bit4E | bit4H | bit4L | bit4AtHl | bit4A
  | bit5B | bit5C | bit5D | bit5E | bit5H | bit5L | bit5AtHl | bit5A
  | bit6B | bit6C | bit6D | bit6E | bit6H | bit6L | bit6AtHl | bit6A
  | bit7B | bit7C | bit7D | bit7E | bit7H | bit7L | bit7AtHl | bit7A
  | res0B | res0C | res0D | res0E | res0H | res0L | res0AtHl | res0A
  | res1B | res1C | res1D | res1E | res1H | res1L | res1AtHl | res1A
  | res2B | res2C | res2D | res2E | res2H | res2L | res2AtHl | res2A
  | res3B | res3C | res3D | res3E | res3H | res3L | res3AtHl | res3A
  | res4B | res4C | res4D | res4E | res4H | res4L | res4AtHl | res4A
  | res5B | res5C | res5D | res5E | res5H | res5L | res5AtHl | res5A
  | res6B | res6C | res6D | res6E | res6H | res6L | res6AtHl | res6A
  | res7B | res7C | res7D | res7E | res7H | res7L | res7AtHl | res7A
  | set0B | set0C | set0D | set0E | set0H | set0L | set0AtHl | set0A
  | set1B | set1C | set1D | set1E | set1H | set1L | set1AtHl | set1A
  | set2B | set2C | set2D | set2E | set2H | set2L | set2AtHl | set2A
  | set3B | set3C | set3D | set3E | set3H | set3L | set3AtHl | set3A
  | set4B | set4C | set4D | set4E | set4H | set4L | set4AtHl | set4A
  | set5B | set5C | set5D | set5E | set5H | set5L | set5AtHl | set5A
  | set6B | set6C | set6D | set6E | set6H | set6L | set6AtHl | set6A
  | set7B | set7C | set7D | set7E | set7H | set7L | set7AtHl | set7A
  deriving DecidableEq, Repr

/-- The instructions of the family `ldPairImm` by operand. -/
def Instr.ofLdPairImm : Pair16 → Instr
  | .bc => .ldBcN16
  | .de => .ldDeN16
  | .hl => .ldHlN16
  | .sp => .ldSpN16

/-- The instructions of the family `ldIndA` by operand. -/
def Instr.ofLdIndA : IndPair → Instr
  | .bc => .ldAtBcA
  | .de => .ldAtDeA

/-- The instructions of the family `incPair` by operand. -/
def Instr.ofIncPair : Pair16 → Instr
  | .bc => .incBc
  | .de => .incDe
  | .hl => .incHl
  | .sp => .incSp

/-- The instructions of the family `incReg` by operand. -/
def Instr.ofIncReg : Reg8 → Instr
  | .b => .incB
  | .c => .incC
  | .d => .incD
  | .e => .incE
  | .h => .incH
  | .l => .incL
  | .a => .incA

/-- The instructions of the family `decReg` by operand. -/
def Instr.ofDecReg : Reg8 → Instr
  | .b => .decB
  | .c => .decC
  | .d => .decD
  | .e => .decE
  | .h => .decH
  | .l => .decL
  | .a => .decA

/-- The instructions of the family `ldRegImm` by operand. -/
def Instr.ofLdRegImm : Reg8 → Instr
  | .b => .ldBN8
  | .c => .ldCN8
  | .d => .ldDN8
  | .e => .ldEN8
  | .h => .ldHN8
  | .l => .ldLN8
  | .a => .ldAN8

/-- The instructions of the family `addHl` by operand. -/
def Instr.ofAddHl : Pair16 → Instr
  | .bc => .addHlBc
  | .de => .addHlDe
  | .hl => .addHlHl
  | .sp => .addHlSp

/-- The instructions of the family `ldAInd` by operand. -/
def Instr.ofLdAInd : IndPair → Instr
  | .bc => .ldAAtBc
  | .de => .ldAAtDe

/-- The instructions of the family `decPair` by operand. -/
def Instr.ofDecPair : Pair16 → Instr
  | .bc => .decBc
  | .de => .decDe
  | .hl => .decHl
  | .sp => .decSp

/-- The instructions of the family `jrCc` by operand. -/
def Instr.ofJrCc : Cond → Instr
  | .nz => .jrNzE8
  | .z => .jrZE8
  | .nc => .jrNcE8
  | .c => .jrCE8

/-- The instructions of the family `ldRegReg` by operand. -/
def Instr.ofLdRegReg : Reg8 → Reg8 → Instr
  | .b, .b => .ldBB
  | .b, .c => .ldBC
  | .b, .d => .ldBD
  | .b, .e => .ldBE
  | .b, .h => .ldBH
  | .b, .l => .ldBL
  | .b, .a => .ldBA
  | .c, .b => .ldCB
  | .c, .c => .ldCC
  | .c, .d => .ldCD
  | .c, .e => .ldCE
  | .c, .h => .ldCH
  | .c, .l => .ldCL
  | .c, .a => .ldCA
  | .d, .b => .ldDB
  | .d, .c => .ldDC
  | .d, .d => .ldDD
  | .d, .e => .ldDE
  | .d, .h => .ldDH
  | .d, .l => .ldDL
  | .d, .a => .ldDA
  | .e, .b => .ldEB
  | .e, .c => .ldEC
  | .e, .d => .ldED
  | .e, .e => .ldEE
  | .e, .h => .ldEH
  | .e, .l => .ldEL
  | .e, .a => .ldEA
  | .h, .b => .ldHB
  | .h, .c => .ldHC
  | .h, .d => .ldHD
  | .h, .e => .ldHE
  | .h, .h => .ldHH
  | .h, .l => .ldHL
  | .h, .a => .ldHA
  | .l, .b => .ldLB
  | .l, .c => .ldLC
  | .l, .d => .ldLD
  | .l, .e => .ldLE
  | .l, .h => .ldLH
  | .l, .l => .ldLL
  | .l, .a => .ldLA
  | .a, .b => .ldAB
  | .a, .c => .ldAC
  | .a, .d => .ldAD
  | .a, .e => .ldAE
  | .a, .h => .ldAH
  | .a, .l => .ldAL
  | .a, .a => .ldAA

/-- The instructions of the family `ldRegHl` by operand. -/
def Instr.ofLdRegHl : Reg8 → Instr
  | .b => .ldBAtHl
  | .c => .ldCAtHl
  | .d => .ldDAtHl
  | .e => .ldEAtHl
  | .h => .ldHAtHl
  | .l => .ldLAtHl
  | .a => .ldAAtHl

/-- The instructions of the family `ldHlReg` by operand. -/
def Instr.ofLdHlReg : Reg8 → Instr
  | .b => .ldAtHlB
  | .c => .ldAtHlC
  | .d => .ldAtHlD
  | .e => .ldAtHlE
  | .h => .ldAtHlH
  | .l => .ldAtHlL
  | .a => .ldAtHlA

/-- The instructions of the family `aluReg` by operand. -/
def Instr.ofAluReg : AluOp → Reg8 → Instr
  | .add, .b => .addAB
  | .add, .c => .addAC
  | .add, .d => .addAD
  | .add, .e => .addAE
  | .add, .h => .addAH
  | .add, .l => .addAL
  | .add, .a => .addAA
  | .adc, .b => .adcAB
  | .adc, .c => .adcAC
  | .adc, .d => .adcAD
  | .adc, .e => .adcAE
  | .adc, .h => .adcAH
  | .adc, .l => .adcAL
  | .adc, .a => .adcAA
  | .sub, .b => .subB
  | .sub, .c => .subC
  | .sub, .d => .subD
  | .sub, .e => .subE
  | .sub, .h => .subH
  | .sub, .l => .subL
  | .sub, .a => .subA
  | .sbc, .b => .sbcAB
  | .sbc, .c => .sbcAC
  | .sbc, .d => .sbcAD
  | .sbc, .e => .sbcAE
  | .sbc, .h => .sbcAH
  | .sbc, .l => .sbcAL
  | .sbc, .a => .sbcAA
  | .and, .b => .andB
  | .and, .c => .andC
  | .and, .d => .andD
  | .and, .e => .andE
  | .and, .h => .andH
  | .and, .l => .andL
  | .and, .a => .andA
  | .xor, .b => .xorB
  | .xor, .c => .xorC
  | .xor, .d => .xorD
  | .xor, .e => .xorE
  | .xor, .h => .xorH
  | .xor, .l => .xorL
  | .xor, .a => .xorA
  | .or, .b => .orB
  | .or, .c => .orC
  | .or, .d => .orD
  | .or, .e => .orE
  | .or, .h => .orH
  | .or, .l => .orL
  | .or, .a => .orA
  | .cp, .b => .cpB
  | .cp, .c => .cpC
  | .cp, .d => .cpD
  | .cp, .e => .cpE
  | .cp, .h => .cpH
  | .cp, .l => .cpL
  | .cp, .a => .cpA

/-- The instructions of the family `aluHl` by operand. -/
def Instr.ofAluHl : AluOp → Instr
  | .add => .addAAtHl
  | .adc => .adcAAtHl
  | .sub => .subAtHl
  | .sbc => .sbcAAtHl
  | .and => .andAtHl
  | .xor => .xorAtHl
  | .or => .orAtHl
  | .cp => .cpAtHl

/-- The instructions of the family `retCc` by operand. -/
def Instr.ofRetCc : Cond → Instr
  | .nz => .retNz
  | .z => .retZ
  | .nc => .retNc
  | .c => .retC

/-- The instructions of the family `pop` by operand. -/
def Instr.ofPop : StackPair → Instr
  | .bc => .popBc
  | .de => .popDe
  | .hl => .popHl
  | .af => .popAf

/-- The instructions of the family `jpCc` by operand. -/
def Instr.ofJpCc : Cond → Instr
  | .nz => .jpNzN16
  | .z => .jpZN16
  | .nc => .jpNcN16
  | .c => .jpCN16

/-- The instructions of the family `callCc` by operand. -/
def Instr.ofCallCc : Cond → Instr
  | .nz => .callNzN16
  | .z => .callZN16
  | .nc => .callNcN16
  | .c => .callCN16

/-- The instructions of the family `push` by operand. -/
def Instr.ofPush : StackPair → Instr
  | .bc => .pushBc
  | .de => .pushDe
  | .hl => .pushHl
  | .af => .pushAf

/-- The instructions of the family `aluImm` by operand. -/
def Instr.ofAluImm : AluOp → Instr
  | .add => .addAN8
  | .adc => .adcAN8
  | .sub => .subN8
  | .sbc => .sbcAN8
  | .and => .andN8
  | .xor => .xorN8
  | .or => .orN8
  | .cp => .cpN8

/-- The instructions of the family `rst` by operand. -/
def Instr.ofRst : Oct → Instr
  | .o0 => .rst00
  | .o1 => .rst08
  | .o2 => .rst10
  | .o3 => .rst18
  | .o4 => .rst20
  | .o5 => .rst28
  | .o6 => .rst30
  | .o7 => .rst38

/-- The instructions of the family `undef` by operand. -/
def Instr.ofUndef : Undef → Instr
  | .xD3 => .undefD3
  | .xDB => .undefDB
  | .xDD => .undefDD
  | .xE3 => .undefE3
  | .xE4 => .undefE4
  | .xEB => .undefEB
  | .xEC => .undefEC
  | .xED => .undefED
  | .xF4 => .undefF4
  | .xFC => .undefFC
  | .xFD => .undefFD

/-- The instructions of the family `rotReg` by operand. -/
def Instr.ofRotReg : RotOp → Reg8 → Instr
  | .rlc, .b => .rlcB
  | .rlc, .c => .rlcC
  | .rlc, .d => .rlcD
  | .rlc, .e => .rlcE
  | .rlc, .h => .rlcH
  | .rlc, .l => .rlcL
  | .rlc, .a => .rlcA
  | .rrc, .b => .rrcB
  | .rrc, .c => .rrcC
  | .rrc, .d => .rrcD
  | .rrc, .e => .rrcE
  | .rrc, .h => .rrcH
  | .rrc, .l => .rrcL
  | .rrc, .a => .rrcA
  | .rl, .b => .rlB
  | .rl, .c => .rlC
  | .rl, .d => .rlD
  | .rl, .e => .rlE
  | .rl, .h => .rlH
  | .rl, .l => .rlL
  | .rl, .a => .rlA
  | .rr, .b => .rrB
  | .rr, .c => .rrC
  | .rr, .d => .rrD
  | .rr, .e => .rrE
  | .rr, .h => .rrH
  | .rr, .l => .rrL
  | .rr, .a => .rrA
  | .sla, .b => .slaB
  | .sla, .c => .slaC
  | .sla, .d => .slaD
  | .sla, .e => .slaE
  | .sla, .h => .slaH
  | .sla, .l => .slaL
  | .sla, .a => .slaA
  | .sra, .b => .sraB
  | .sra, .c => .sraC
  | .sra, .d => .sraD
  | .sra, .e => .sraE
  | .sra, .h => .sraH
  | .sra, .l => .sraL
  | .sra, .a => .sraA
  | .swap, .b => .swapB
  | .swap, .c => .swapC
  | .swap, .d => .swapD
  | .swap, .e => .swapE
  | .swap, .h => .swapH
  | .swap, .l => .swapL
  | .swap, .a => .swapA
  | .srl, .b => .srlB
  | .srl, .c => .srlC
  | .srl, .d => .srlD
  | .srl, .e => .srlE
  | .srl, .h => .srlH
  | .srl, .l => .srlL
  | .srl, .a => .srlA

/-- The instructions of the family `rotHl` by operand. -/
def Instr.ofRotHl : RotOp → Instr
  | .rlc => .rlcAtHl
  | .rrc => .rrcAtHl
  | .rl => .rlAtHl
  | .rr => .rrAtHl
  | .sla => .slaAtHl
  | .sra => .sraAtHl
  | .swap => .swapAtHl
  | .srl => .srlAtHl

/-- The instructions of the family `bitReg` by operand. -/
def Instr.ofBitReg : Oct → Reg8 → Instr
  | .o0, .b => .bit0B
  | .o0, .c => .bit0C
  | .o0, .d => .bit0D
  | .o0, .e => .bit0E
  | .o0, .h => .bit0H
  | .o0, .l => .bit0L
  | .o0, .a => .bit0A
  | .o1, .b => .bit1B
  | .o1, .c => .bit1C
  | .o1, .d => .bit1D
  | .o1, .e => .bit1E
  | .o1, .h => .bit1H
  | .o1, .l => .bit1L
  | .o1, .a => .bit1A
  | .o2, .b => .bit2B
  | .o2, .c => .bit2C
  | .o2, .d => .bit2D
  | .o2, .e => .bit2E
  | .o2, .h => .bit2H
  | .o2, .l => .bit2L
  | .o2, .a => .bit2A
  | .o3, .b => .bit3B
  | .o3, .c => .bit3C
  | .o3, .d => .bit3D
  | .o3, .e => .bit3E
  | .o3, .h => .bit3H
  | .o3, .l => .bit3L
  | .o3, .a => .bit3A
  | .o4, .b => .bit4B
  | .o4, .c => .bit4C
  | .o4, .d => .bit4D
  | .o4, .e => .bit4E
  | .o4, .h => .bit4H
  | .o4, .l => .bit4L
  | .o4, .a => .bit4A
  | .o5, .b => .bit5B
  | .o5, .c => .bit5C
  | .o5, .d => .bit5D
  | .o5, .e => .bit5E
  | .o5, .h => .bit5H
  | .o5, .l => .bit5L
  | .o5, .a => .bit5A
  | .o6, .b => .bit6B
  | .o6, .c => .bit6C
  | .o6, .d => .bit6D
  | .o6, .e => .bit6E
  | .o6, .h => .bit6H
  | .o6, .l => .bit6L
  | .o6, .a => .bit6A
  | .o7, .b => .bit7B
  | .o7, .c => .bit7C
  | .o7, .d => .bit7D
  | .o7, .e => .bit7E
  | .o7, .h => .bit7H
  | .o7, .l => .bit7L
  | .o7, .a => .bit7A

/-- The instructions of the family `bitHl` by operand. -/
def Instr.ofBitHl : Oct → Instr
  | .o0 => .bit0AtHl
  | .o1 => .bit1AtHl
  | .o2 => .bit2AtHl
  | .o3 => .bit3AtHl
  | .o4 => .bit4AtHl
  | .o5 => .bit5AtHl
  | .o6 => .bit6AtHl
  | .o7 => .bit7AtHl

/-- The instructions of the family `resReg` by operand. -/
def Instr.ofResReg : Oct → Reg8 → Instr
  | .o0, .b => .res0B
  | .o0, .c => .res0C
  | .o0, .d => .res0D
  | .o0, .e => .res0E
  | .o0, .h => .res0H
  | .o0, .l => .res0L
  | .o0, .a => .res0A
  | .o1, .b => .res1B
  | .o1, .c => .res1C
  | .o1, .d => .res1D
  | .o1, .e => .res1E
  | .o1, .h => .res1H
  | .o1, .l => .res1L
  | .o1, .a => .res1A
  | .o2, .b => .res2B
  | .o2, .c => .res2C
  | .o2, .d => .res2D
  | .o2, .e => .res2E
  | .o2, .h => .res2H
  | .o2, .l => .res2L
  | .o2, .a => .res2A
  | .o3, .b => .res3B
  | .o3, .c => .res3C
  | .o3, .d => .res3D
  | .o3, .e => .res3E
  | .o3, .h => .res3H
  | .o3, .l => .res3L
  | .o3, .a => .res3A
  | .o4, .b => .res4B
  | .o4, .c => .res4C
  | .o4, .d => .res4D
  | .o4, .e => .res4E
  | .o4, .h => .res4H
  | .o4, .l => .res4L
  | .o4, .a => .res4A
  | .o5, .b => .res5B
  | .o5, .c => .res5C
  | .o5, .d => .res5D
  | .o5, .e => .res5E
  | .o5, .h => .res5H
  | .o5, .l => .res5L
  | .o5, .a => .res5A
  | .o6, .b => .res6B
  | .o6, .c => .res6C
  | .o6, .d => .res6D
  | .o6, .e => .res6E
  | .o6, .h => .res6H
  | .o6, .l => .res6L
  | .o6, .a => .res6A
  | .o7, .b => .res7B
  | .o7, .c => .res7C
  | .o7, .d => .res7D
  | .o7, .e => .res7E
  | .o7, .h => .res7H
  | .o7, .l => .res7L
  | .o7, .a => .res7A

/-- The instructions of the family `resHl` by operand. -/
def Instr.ofResHl : Oct → Instr
  | .o0 => .res0AtHl
  | .o1 => .res1AtHl
  | .o2 => .res2AtHl
  | .o3 => .res3AtHl
  | .o4 => .res4AtHl
  | .o5 => .res5AtHl
  | .o6 => .res6AtHl
  | .o7 => .res7AtHl

/-- The instructions of the family `setReg` by operand. -/
def Instr.ofSetReg : Oct → Reg8 → Instr
  | .o0, .b => .set0B
  | .o0, .c => .set0C
  | .o0, .d => .set0D
  | .o0, .e => .set0E
  | .o0, .h => .set0H
  | .o0, .l => .set0L
  | .o0, .a => .set0A
  | .o1, .b => .set1B
  | .o1, .c => .set1C
  | .o1, .d => .set1D
  | .o1, .e => .set1E
  | .o1, .h => .set1H
  | .o1, .l => .set1L
  | .o1, .a => .set1A
  | .o2, .b => .set2B
  | .o2, .c => .set2C
  | .o2, .d => .set2D
  | .o2, .e => .set2E
  | .o2, .h => .set2H
  | .o2, .l => .set2L
  | .o2, .a => .set2A
  | .o3, .b => .set3B
  | .o3, .c => .set3C
  | .o3, .d => .set3D
  | .o3, .e => .set3E
  | .o3, .h => .set3H
  | .o3, .l => .set3L
  | .o3, .a => .set3A
  | .o4, .b => .set4B
  | .o4, .c => .set4C
  | .o4, .d => .set4D
  | .o4, .e => .set4E
  | .o4, .h => .set4H
  | .o4, .l => .set4L
  | .o4, .a => .set4A
  | .o5, .b => .set5B
  | .o5, .c => .set5C
  | .o5, .d => .set5D
  | .o5, .e => .set5E
  | .o5, .h => .set5H
  | .o5, .l => .set5L
  | .o5, .a => .set5A
  | .o6, .b => .set6B
  | .o6, .c => .set6C
  | .o6, .d => .set6D
  | .o6, .e => .set6E
  | .o6, .h => .set6H
  | .o6, .l => .set6L
  | .o6, .a => .set6A
  | .o7, .b => .set7B
  | .o7, .c => .set7C
  | .o7, .d => .set7D
  | .o7, .e => .set7E
  | .o7, .h => .set7H
  | .o7, .l => .set7L
  | .o7, .a => .set7A

/-- The instructions of the family `setHl` by operand. -/
def Instr.ofSetHl : Oct → Instr
  | .o0 => .set0AtHl
  | .o1 => .set1AtHl
  | .o2 => .set2AtHl
  | .o3 => .set3AtHl
  | .o4 => .set4AtHl
  | .o5 => .set5AtHl
  | .o6 => .set6AtHl
  | .o7 => .set7AtHl

/-- The instruction of a family and its operands. -/
def Instr.ofForm : Form → Instr
  | .nop => .nop
  | .ldPairImm x => .ofLdPairImm x
  | .ldIndA x => .ofLdIndA x
  | .incPair x => .ofIncPair x
  | .incReg x => .ofIncReg x
  | .decReg x => .ofDecReg x
  | .ldRegImm x => .ofLdRegImm x
  | .rlca => .rlca
  | .ldAbsSp => .ldAtN16Sp
  | .addHl x => .ofAddHl x
  | .ldAInd x => .ofLdAInd x
  | .decPair x => .ofDecPair x
  | .rrca => .rrca
  | .stop => .stop
  | .rla => .rla
  | .jr => .jrE8
  | .rra => .rra
  | .jrCc x => .ofJrCc x
  | .ldHlIncA => .ldAtHlIncA
  | .daa => .daa
  | .ldAHlInc => .ldAAtHlInc
  | .cpl => .cpl
  | .ldHlDecA => .ldAtHlDecA
  | .incHl => .incAtHl
  | .decHl => .decAtHl
  | .ldHlImm => .ldAtHlN8
  | .scf => .scf
  | .ldAHlDec => .ldAAtHlDec
  | .ccf => .ccf
  | .ldRegReg x y => .ofLdRegReg x y
  | .ldRegHl x => .ofLdRegHl x
  | .ldHlReg x => .ofLdHlReg x
  | .halt => .halt
  | .aluReg x y => .ofAluReg x y
  | .aluHl x => .ofAluHl x
  | .retCc x => .ofRetCc x
  | .pop x => .ofPop x
  | .jpCc x => .ofJpCc x
  | .jp => .jpN16
  | .callCc x => .ofCallCc x
  | .push x => .ofPush x
  | .aluImm x => .ofAluImm x
  | .rst x => .ofRst x
  | .ret => .ret
  | .prefixCB => .prefixCB
  | .call => .callN16
  | .undef x => .ofUndef x
  | .reti => .reti
  | .ldhImmA => .ldhAtN8A
  | .ldCA => .ldAtCA
  | .addSp => .addSpE8
  | .jpHl => .jpHl
  | .ldAbsA => .ldAtN16A
  | .ldhAImm => .ldhAAtN8
  | .ldAC => .ldAAtC
  | .di => .di
  | .ldHlSp => .ldHlSpE8
  | .ldSpHl => .ldSpHl
  | .ldAAbs => .ldAAtN16
  | .ei => .ei
  | .rotReg x y => .ofRotReg x y
  | .rotHl x => .ofRotHl x
  | .bitReg x y => .ofBitReg x y
  | .bitHl x => .ofBitHl x
  | .resReg x y => .ofResReg x y
  | .resHl x => .ofResHl x
  | .setReg x y => .ofSetReg x y
  | .setHl x => .ofSetHl x

/-- The family of an instruction and its operands (`ofForm` read backwards). -/
def Instr.form (i : Instr) : Form :=
  match i with
  | .nop => .nop
  | .ldBcN16 => .ldPairImm .bc
  | .ldAtBcA => .ldIndA .bc
  | .incBc => .incPair .bc
  | .incB => .incReg .b
  | .decB => .decReg .b
  | .ldBN8 => .ldRegImm .b
  | .rlca => .rlca
  | .ldAtN16Sp => .ldAbsSp
  | .addHlBc => .addHl .bc
  | .ldAAtBc => .ldAInd .bc
  | .decBc => .decPair .bc
  | .incC => .incReg .c
  | .decC => .decReg .c
  | .ldCN8 => .ldRegImm .c
  | .rrca => .rrca
  | .stop => .stop
  | .ldDeN16 => .ldPairImm .de
  | .ldAtDeA => .ldIndA .de
  | .incDe => .incPair .de
  | .incD => .incReg .d
  | .decD => .decReg .d
  | .ldDN8 => .ldRegImm .d
  | .rla => .rla
  | .jrE8 => .jr
  | .addHlDe => .addHl .de
  | .ldAAtDe => .ldAInd .de
  | .decDe => .decPair .de
  | .incE => .incReg .e
  | .decE => .decReg .e
  | .ldEN8 => .ldRegImm .e
  | .rra => .rra
  | .jrNzE8 => .jrCc .nz
  | .ldHlN16 => .ldPairImm .hl
  | .ldAtHlIncA => .ldHlIncA
  | .incHl => .incPair .hl
  | .incH => .incReg .h
  | .decH => .decReg .h
  | .ldHN8 => .ldRegImm .h
  | .daa => .daa
  | .jrZE8 => .jrCc .z
  | .addHlHl => .addHl .hl
  | .ldAAtHlInc => .ldAHlInc
  | .decHl => .decPair .hl
  | .incL => .incReg .l
  | .decL => .decReg .l
  | .ldLN8 => .ldRegImm .l
  | .cpl => .cpl
  | .jrNcE8 => .jrCc .nc
  | .ldSpN16 => .ldPairImm .sp
  | .ldAtHlDecA => .ldHlDecA
  | .incSp => .incPair .sp
  | .incAtHl => .incHl
  | .decAtHl => .decHl
  | .ldAtHlN8 => .ldHlImm
  | .scf => .scf
  | .jrCE8 => .jrCc .c
  | .addHlSp => .addHl .sp
  | .ldAAtHlDec => .ldAHlDec
  | .decSp => .decPair .sp
  | .incA => .incReg .a
  | .decA => .decReg .a
  | .ldAN8 => .ldRegImm .a
  | .ccf => .ccf
  | .ldBB => .ldRegReg .b .b
  | .ldBC => .ldRegReg .b .c
  | .ldBD => .ldRegReg .b .d
  | .ldBE => .ldRegReg .b .e
  | .ldBH => .ldRegReg .b .h
  | .ldBL => .ldRegReg .b .l
  | .ldBAtHl => .ldRegHl .b
  | .ldBA => .ldRegReg .b .a
  | .ldCB => .ldRegReg .c .b
  | .ldCC => .ldRegReg .c .c
  | .ldCD => .ldRegReg .c .d
  | .ldCE => .ldRegReg .c .e
  | .ldCH => .ldRegReg .c .h
  | .ldCL => .ldRegReg .c .l
  | .ldCAtHl => .ldRegHl .c
  | .ldCA => .ldRegReg .c .a
  | .ldDB => .ldRegReg .d .b
  | .ldDC => .ldRegReg .d .c
  | .ldDD => .ldRegReg .d .d
  | .ldDE => .ldRegReg .d .e
  | .ldDH => .ldRegReg .d .h
  | .ldDL => .ldRegReg .d .l
  | .ldDAtHl => .ldRegHl .d
  | .ldDA => .ldRegReg .d .a
  | .ldEB => .ldRegReg .e .b
  | .ldEC => .ldRegReg .e .c
  | .ldED => .ldRegReg .e .d
  | .ldEE => .ldRegReg .e .e
  | .ldEH => .ldRegReg .e .h
  | .ldEL => .ldRegReg .e .l
  | .ldEAtHl => .ldRegHl .e
  | .ldEA => .ldRegReg .e .a
  | .ldHB => .ldRegReg .h .b
  | .ldHC => .ldRegReg .h .c
  | .ldHD => .ldRegReg .h .d
  | .ldHE => .ldRegReg .h .e
  | .ldHH => .ldRegReg .h .h
  | .ldHL => .ldRegReg .h .l
  | .ldHAtHl => .ldRegHl .h
  | .ldHA => .ldRegReg .h .a
  | .ldLB => .ldRegReg .l .b
  | .ldLC => .ldRegReg .l .c
  | .ldLD => .ldRegReg .l .d
  | .ldLE => .ldRegReg .l .e
  | .ldLH => .ldRegReg .l .h
  | .ldLL => .ldRegReg .l .l
  | .ldLAtHl => .ldRegHl .l
  | .ldLA => .ldRegReg .l .a
  | .ldAtHlB => .ldHlReg .b
  | .ldAtHlC => .ldHlReg .c
  | .ldAtHlD => .ldHlReg .d
  | .ldAtHlE => .ldHlReg .e
  | .ldAtHlH => .ldHlReg .h
  | .ldAtHlL => .ldHlReg .l
  | .halt => .halt
  | .ldAtHlA => .ldHlReg .a
  | .ldAB => .ldRegReg .a .b
  | .ldAC => .ldRegReg .a .c
  | .ldAD => .ldRegReg .a .d
  | .ldAE => .ldRegReg .a .e
  | .ldAH => .ldRegReg .a .h
  | .ldAL => .ldRegReg .a .l
  | .ldAAtHl => .ldRegHl .a
  | .ldAA => .ldRegReg .a .a
  | .addAB => .aluReg .add .b
  | .addAC => .aluReg .add .c
  | .addAD => .aluReg .add .d
  | .addAE => .aluReg .add .e
  | .addAH => .aluReg .add .h
  | .addAL => .aluReg .add .l
  | .addAAtHl => .aluHl .add
  | .addAA => .aluReg .add .a
  | .adcAB => .aluReg .adc .b
  | .adcAC => .aluReg .adc .c
  | .adcAD => .aluReg .adc .d
  | .adcAE => .aluReg .adc .e
  | .adcAH => .aluReg .adc .h
  | .adcAL => .aluReg .adc .l
  | .adcAAtHl => .aluHl .adc
  | .adcAA => .aluReg .adc .a
  | .subB => .aluReg .sub .b
  | .subC => .aluReg .sub .c
  | .subD => .aluReg .sub .d
  | .subE => .aluReg .sub .e
  | .subH => .aluReg .sub .h
  | .subL => .aluReg .sub .l
  | .subAtHl => .aluHl .sub
  | .subA => .aluReg .sub .a
  | .sbcAB => .aluReg .sbc .b
  | .sbcAC => .aluReg .sbc .c
  | .sbcAD => .aluReg .sbc .d
  | .sbcAE => .aluReg .sbc .e
  | .sbcAH => .aluReg .sbc .h
  | .sbcAL => .aluReg .sbc .l
  | .sbcAAtHl => .aluHl .sbc
  | .sbcAA => .aluReg .sbc .a
  | .andB => .aluReg .and .b
  | .andC => .aluReg .and .c
  | .andD => .aluReg .and .d
  | .andE => .aluReg .and .e
  | .andH => .aluReg .and .h
  | .andL => .aluReg .and .l
  | .andAtHl => .aluHl .and
  | .andA => .aluReg .and .a
  | .xorB => .aluReg .xor .b
  | .xorC => .aluReg .xor .c
  | .xorD => .aluReg .xor .d
  | .xorE => .aluReg .xor .e
  | .xorH => .aluReg .xor .h
  | .xorL => .aluReg .xor .l
  | .xorAtHl => .aluHl .xor
  | .xorA => .aluReg .xor .a
  | .orB => .aluReg .or .b
  | .orC => .aluReg .or .c
  | .orD => .aluReg .or .d
  | .orE => .aluReg .or .e
  | .orH => .aluReg .or .h
  | .orL => .aluReg .or .l
  | .orAtHl => .aluHl .or
  | .orA => .aluReg .or .a
  | .cpB => .aluReg .cp .b
  | .cpC => .aluReg .cp .c
  | .cpD => .aluReg .cp .d
  | .cpE => .aluReg .cp .e
  | .cpH => .aluReg .cp .h
  | .cpL => .aluReg .cp .l
  | .cpAtHl => .aluHl .cp
  | .cpA => .aluReg .cp .a
  | .retNz => .retCc .nz
  | .popBc => .pop .bc
  | .jpNzN16 => .jpCc .nz
  | .jpN16 => .jp
  | .callNzN16 => .callCc .nz
  | .pushBc => .push .bc
  | .addAN8 => .aluImm .add
  | .rst00 => .rst .o0
  | .retZ => .retCc .z
  | .ret => .ret
  | .jpZN16 => .jpCc .z
  | .prefixCB => .prefixCB
  | .callZN16 => .callCc .z
  | .callN16 => .call
  | .adcAN8 => .aluImm .adc
  | .rst08 => .rst .o1
  | .retNc => .retCc .nc
  | .popDe => .pop .de
  | .jpNcN16 => .jpCc .nc
  | .undefD3 => .undef .xD3
  | .callNcN16 => .callCc .nc
  | .pushDe => .push .de
  | .subN8 => .aluImm .sub
  | .rst10 => .rst .o2
  | .retC => .retCc .c
  | .reti => .reti
  | .jpCN16 => .jpCc .c
  | .undefDB => .undef .xDB
  | .callCN16 => .callCc .c
  | .undefDD => .undef .xDD
  | .sbcAN8 => .aluImm .sbc
  | .rst18 => .rst .o3
  | .ldhAtN8A => .ldhImmA
  | .popHl => .pop .hl
  | .ldAtCA => .ldCA
  | .undefE3 => .undef .xE3
  | .undefE4 => .undef .xE4
  | .pushHl => .push .hl
  | .andN8 => .aluImm .and
  | .rst20 => .rst .o4
  | .addSpE8 => .addSp
  | .jpHl => .jpHl
  | .ldAtN16A => .ldAbsA
  | .undefEB => .undef .xEB
  | .undefEC => .undef .xEC
  | .undefED => .undef .xED
  | .xorN8 => .aluImm .xor
  | .rst28 => .rst .o5
  | .ldhAAtN8 => .ldhAImm
  | .popAf => .pop .af
  | .ldAAtC => .ldAC
  | .di => .di
  | .undefF4 => .undef .xF4
  | .pushAf => .push .af
  | .orN8 => .aluImm .or
  | .rst30 => .rst .o6
  | .ldHlSpE8 => .ldHlSp
  | .ldSpHl => .ldSpHl
  | .ldAAtN16 => .ldAAbs
  | .ei => .ei
  | .undefFC => .undef .xFC
  | .undefFD => .undef .xFD
  | .cpN8 => .aluImm .cp
  | .rst38 => .rst .o7
  | .rlcB => .rotReg .rlc .b
  | .rlcC => .rotReg .rlc .c
  | .rlcD => .rotReg .rlc .d
  | .rlcE => .rotReg .rlc .e
  | .rlcH => .rotReg .rlc .h
  | .rlcL => .rotReg .rlc .l
  | .rlcAtHl => .rotHl .rlc
  | .rlcA => .rotReg .rlc .a
  | .rrcB => .rotReg .rrc .b
  | .rrcC => .rotReg .rrc .c
  | .rrcD => .rotReg .rrc .d
  | .rrcE => .rotReg .rrc .e
  | .rrcH => .rotReg .rrc .h
  | .rrcL => .rotReg .rrc .l
  | .rrcAtHl => .rotHl .rrc
  | .rrcA => .rotReg .rrc .a
  | .rlB => .rotReg .rl .b
  | .rlC => .rotReg .rl .c
  | .rlD => .rotReg .rl .d
  | .rlE => .rotReg .rl .e
  | .rlH => .rotReg .rl .h
  | .rlL => .rotReg .rl .l
  | .rlAtHl => .rotHl .rl
  | .rlA => .rotReg .rl .a
  | .rrB => .rotReg .rr .b
  | .rrC => .rotReg .rr .c
  | .rrD => .rotReg .rr .d
  | .rrE => .rotReg .rr .e
  | .rrH => .rotReg .rr .h
  | .rrL => .rotReg .rr .l
  | .rrAtHl => .rotHl .rr
  | .rrA => .rotReg .rr .a
  | .slaB => .rotReg .sla .b
  | .slaC => .rotReg .sla .c
  | .slaD => .rotReg .sla .d
  | .slaE => .rotReg .sla .e
  | .slaH => .rotReg .sla .h
  | .slaL => .rotReg .sla .l
  | .slaAtHl => .rotHl .sla
  | .slaA => .rotReg .sla .a
  | .sraB => .rotReg .sra .b
  | .sraC => .rotReg .sra .c
  | .sraD => .rotReg .sra .d
  | .sraE => .rotReg .sra .e
  | .sraH => .rotReg .sra .h
  | .sraL => .rotReg .sra .l
  | .sraAtHl => .rotHl .sra
  | .sraA => .rotReg .sra .a
  | .swapB => .rotReg .swap .b
  | .swapC => .rotReg .swap .c
  | .swapD => .rotReg .swap .d
  | .swapE => .rotReg .swap .e
  | .swapH => .rotReg .swap .h
  | .swapL => .rotReg .swap .l
  | .swapAtHl => .rotHl .swap
  | .swapA => .rotReg .swap .a
  | .srlB => .rotReg .srl .b
  | .srlC => .rotReg .srl .c
  | .srlD => .rotReg .srl .d
  | .srlE => .rotReg .srl .e
  | .srlH => .rotReg .srl .h
  | .srlL => .rotReg .srl .l
  | .srlAtHl => .rotHl .srl
  | .srlA => .rotReg .srl .a
  | .bit0B => .bitReg .o0 .b
  | .bit0C => .bitReg .o0 .c
  | .bit0D => .bitReg .o0 .d
  | .bit0E => .bitReg .o0 .e
  | .bit0H => .bitReg .o0 .h
  | .bit0L => .bitReg .o0 .l
  | .bit0AtHl => .bitHl .o0
  | .bit0A => .bitReg .o0 .a
  | .bit1B => .bitReg .o1 .b
  | .bit1C => .bitReg .o1 .c
  | .bit1D => .bitReg .o1 .d
  | .bit1E => .bitReg .o1 .e
  | .bit1H => .bitReg .o1 .h
  | .bit1L => .bitReg .o1 .l
  | .bit1AtHl => .bitHl .o1
  | .bit1A => .bitReg .o1 .a
  | .bit2B => .bitReg .o2 .b
  | .bit2C => .bitReg .o2 .c
  | .bit2D => .bitReg .o2 .d
  | .bit2E => .bitReg .o2 .e
  | .bit2H => .bitReg .o2 .h
  | .bit2L => .bitReg .o2 .l
  | .bit2AtHl => .bitHl .o2
  | .bit2A => .bitReg .o2 .a
  | .bit3B => .bitReg .o3 .b
  | .bit3C => .bitReg .o3 .c
  | .bit3D => .bitReg .o3 .d
  | .bit3E => .bitReg .o3 .e
  | .bit3H => .bitReg .o3 .h
  | .bit3L => .bitReg .o3 .l
  | .bit3AtHl => .bitHl .o3
  | .bit3A => .bitReg .o3 .a
  | .bit4B => .bitReg .o4 .b
  | .bit4C => .bitReg .o4 .c
  | .bit4D => .bitReg .o4 .d
  | .bit4E => .bitReg .o4 .e
  | .bit4H => .bitReg .o4 .h
  | .bit4L => .bitReg .o4 .l
  | .bit4AtHl => .bitHl .o4
  | .bit4A => .bitReg .o4 .a
  | .bit5B => .bitReg .o5 .b
  | .bit5C => .bitReg .o5 .c
  | .bit5D => .bitReg .o5 .d
  | .bit5E => .bitReg .o5 .e
  | .bit5H => .bitReg .o5 .h
  | .bit5L => .bitReg .o5 .l
  | .bit5AtHl => .bitHl .o5
  | .bit5A => .bitReg .o5 .a
  | .bit6B => .bitReg .o6 .b
  | .bit6C => .bitReg .o6 .c
  | .bit6D => .bitReg .o6 .d
  | .bit6E => .bitReg .o6 .e
  | .bit6H => .bitReg .o6 .h
  | .bit6L => .bitReg .o6 .l
  | .bit6AtHl => .bitHl .o6
  | .bit6A => .bitReg .o6 .a
  | .bit7B => .bitReg .o7 .b
  | .bit7C => .bitReg .o7 .c
  | .bit7D => .bitReg .o7 .d
  | .bit7E => .bitReg .o7 .e
  | .bit7H => .bitReg .o7 .h
  | .bit7L => .bitReg .o7 .l
  | .bit7AtHl => .bitHl .o7
  | .bit7A => .bitReg .o7 .a
  | .res0B => .resReg .o0 .b
  | .res0C => .resReg .o0 .c
  | .res0D => .resReg .o0 .d
  | .res0E => .resReg .o0 .e
  | .res0H => .resReg .o0 .h
  | .res0L => .resReg .o0 .l
  | .res0AtHl => .resHl .o0
  | .res0A => .resReg .o0 .a
  | .res1B => .resReg .o1 .b
  | .res1C => .resReg .o1 .c
  | .res1D => .resReg .o1 .d
  | .res1E => .resReg .o1 .e
  | .res1H => .resReg .o1 .h
  | .res1L => .resReg .o1 .l
  | .res1AtHl => .resHl .o1
  | .res1A => .resReg .o1 .a
  | .res2B => .resReg .o2 .b
  | .res2C => .resReg .o2 .c
  | .res2D => .resReg .o2 .d
  | .res2E => .resReg .o2 .e
  | .res2H => .resReg .o2 .h
  | .res2L => .resReg .o2 .l
  | .res2AtHl => .resHl .o2
  | .res2A => .resReg .o2 .a
  | .res3B => .resReg .o3 .b
  | .res3C => .resReg .o3 .c
  | .res3D => .resReg .o3 .d
  | .res3E => .resReg .o3 .e
  | .res3H => .resReg .o3 .h
  | .res3L => .resReg .o3 .l
  | .res3AtHl => .resHl .o3
  | .res3A => .resReg .o3 .a
  | .res4B => .resReg .o4 .b
  | .res4C => .resReg .o4 .c
  | .res4D => .resReg .o4 .d
  | .res4E => .resReg .o4 .e
  | .res4H => .resReg .o4 .h
  | .res4L => .resReg .o4 .l
  | .res4AtHl => .resHl .o4
  | .res4A => .resReg .o4 .a
  | .res5B => .resReg .o5 .b
  | .res5C => .resReg .o5 .c
  | .res5D => .resReg .o5 .d
  | .res5E => .resReg .o5 .e
  | .res5H => .resReg .o5 .h
  | .res5L => .resReg .o5 .l
  | .res5AtHl => .resHl .o5
  | .res5A => .resReg .o5 .a
  | .res6B => .resReg .o6 .b
  | .res6C => .resReg .o6 .c
  | .res6D => .resReg .o6 .d
  | .res6E => .resReg .o6 .e
  | .res6H => .resReg .o6 .h
  | .res6L => .resReg .o6 .l
  | .res6AtHl => .resHl .o6
  | .res6A => .resReg .o6 .a
  | .res7B => .resReg .o7 .b
  | .res7C => .resReg .o7 .c
  | .res7D => .resReg .o7 .d
  | .res7E => .resReg .o7 .e
  | .res7H => .resReg .o7 .h
  | .res7L => .resReg .o7 .l
  | .res7AtHl => .resHl .o7
  | .res7A => .resReg .o7 .a
  | .set0B => .setReg .o0 .b
  | .set0C => .setReg .o0 .c
  | .set0D => .setReg .o0 .d
  | .set0E => .setReg .o0 .e
  | .set0H => .setReg .o0 .h
  | .set0L => .setReg .o0 .l
  | .set0AtHl => .setHl .o0
  | .set0A => .setReg .o0 .a
  | .set1B => .setReg .o1 .b
  | .set1C => .setReg .o1 .c
  | .set1D => .setReg .o1 .d
  | .set1E => .setReg .o1 .e
  | .set1H => .setReg .o1 .h
  | .set1L => .setReg .o1 .l
  | .set1AtHl => .setHl .o1
  | .set1A => .setReg .o1 .a
  | .set2B => .setReg .o2 .b
  | .set2C => .setReg .o2 .c
  | .set2D => .setReg .o2 .d
  | .set2E => .setReg .o2 .e
  | .set2H => .setReg .o2 .h
  | .set2L => .setReg .o2 .l
  | .set2AtHl => .setHl .o2
  | .set2A => .setReg .o2 .a
  | .set3B => .setReg .o3 .b
  | .set3C => .setReg .o3 .c
  | .set3D => .setReg .o3 .d
  | .set3E => .setReg .o3 .e
  | .set3H => .setReg .o3 .h
  | .set3L => .setReg .o3 .l
  | .set3AtHl => .setHl .o3
  | .set3A => .setReg .o3 .a
  | .set4B => .setReg .o4 .b
  | .set4C => .setReg .o4 .c
  | .set4D => .setReg .o4 .d
  | .set4E => .setReg .o4 .e
  | .set4H => .setReg .o4 .h
  | .set4L => .setReg .o4 .l
  | .set4AtHl => .setHl .o4
  | .set4A => .setReg .o4 .a
  | .set5B => .setReg .o5 .b
  | .set5C => .setReg .o5 .c
  | .set5D => .setReg .o5 .d
  | .set5E => .setReg .o5 .e
  | .set5H => .setReg .o5 .h
  | .set5L => .setReg .o5 .l
  | .set5AtHl => .setHl .o5
  | .set5A => .setReg .o5 .a
  | .set6B => .setReg .o6 .b
  | .set6C => .setReg .o6 .c
  | .set6D => .setReg .o6 .d
  | .set6E => .setReg .o6 .e
  | .set6H => .setReg .o6 .h
  | .set6L => .setReg .o6 .l
  | .set6AtHl => .setHl .o6
  | .set6A => .setReg .o6 .a
  | .set7B => .setReg .o7 .b
  | .set7C => .setReg .o7 .c
  | .set7D => .setReg .o7 .d
  | .set7E => .setReg .o7 .e
  | .set7H => .setReg .o7 .h
  | .set7L => .setReg .o7 .l
  | .set7AtHl => .setHl .o7
  | .set7A => .setReg .o7 .a

end Sys2Proof
end

