-- ==== Sys2Proof/WellFormed.lean ====
section
/-! DEFINITION. Instructions as they stand in memory: the instruction and its operand bytes, and the check
that the two belong together (spec/30_encoding.md R100, R114, R115, R117, R388). -/

namespace Sys2Proof

/-- The operand-count tag of a decode entry: how many bytes follow the opcode bytes (R114, R115).
STOP counts its skipped byte; a CB instruction has none after its CB byte. -/
def Form.operandBytes : Form → Nat
  | .nop | .halt | .di | .ei | .prefixCB | .undef _ => 0
  | .stop => 1
  | .ldRegReg _ _ | .ldRegHl _ | .ldHlReg _ => 0
  | .ldRegImm _ | .ldHlImm => 1
  | .ldAInd _ | .ldIndA _ | .ldAHlInc | .ldAHlDec | .ldHlIncA | .ldHlDecA => 0
  | .ldAAbs | .ldAbsA => 2
  | .ldhAImm | .ldhImmA => 1
  | .ldAC | .ldCA => 0
  | .ldPairImm _ | .ldAbsSp => 2
  | .ldSpHl | .push _ | .pop _ => 0
  | .aluReg _ _ | .aluHl _ => 0
  | .aluImm _ => 1
  | .incReg _ | .incHl | .decReg _ | .decHl | .daa | .cpl | .scf | .ccf => 0
  | .addHl _ | .incPair _ | .decPair _ => 0
  | .addSp | .ldHlSp => 1
  | .rlca | .rrca | .rla | .rra => 0
  | .rotReg _ _ | .rotHl _ | .bitReg _ _ | .bitHl _ => 0
  | .resReg _ _ | .resHl _ | .setReg _ _ | .setHl _ => 0
  | .jp | .jpCc _ => 2
  | .jpHl => 0
  | .jr | .jrCc _ => 1
  | .call | .callCc _ => 2
  | .rst _ | .ret | .retCc _ | .reti => 0

/-- An instruction with its operand bytes, in the order they stand in memory after the opcode bytes. -/
structure Code where
  instr    : Instr
  operands : List Byte
  deriving DecidableEq, Repr

/-- Check 1 (R388): "0xCB is not an instruction by itself", so the bare CB table entry is no instruction. -/
def Code.isWhole (c : Code) : Bool :=
  decide (c.instr ≠ .prefixCB)

/-- Check 2 (R114): the operand bytes are as many as the instruction's entry says. Every value of an
operand byte is legal (R117), so their values are not checked. -/
def Code.operandsFit (c : Code) : Bool :=
  decide (c.operands.length = c.instr.form.operandBytes)

/-- A well-formed instruction. -/
def Code.wf (c : Code) : Bool :=
  c.isWhole && c.operandsFit

end Sys2Proof
end

