-- ==== Sys2Proof/Decode.lean ====
section
/-! DEFINITION. Decoding and encoding (spec/30_encoding.md): the two decode tables with their entries' cycle counts and
lengths (R111 to R115), the decoder of an instruction as it stands in memory, total on any bytes, and after it the
encoder, written from the opcode values of spec/opcode_table.json. -/

namespace Sys2Proof

/-! ### Operand fields -/

/-- A 3-bit field as the value it names. -/
def Oct.ofBits (v : BitVec 3) : Oct :=
  match v.toNat with
  | 0 => .o0 | 1 => .o1 | 2 => .o2 | 3 => .o3 | 4 => .o4 | 5 => .o5 | 6 => .o6 | _ => .o7

/-- The number of a 3-bit field value: the bit index `b` (R102), the field `y` (R101). -/
def Oct.toNat : Oct → Nat
  | .o0 => 0 | .o1 => 1 | .o2 => 2 | .o3 => 3 | .o4 => 4 | .o5 => 5 | .o6 => 6 | .o7 => 7

/-- The selector `r` (R104); `none` stands for the value 6, the byte at `(HL)`. -/
def Reg8.ofField : Oct → Option Reg8
  | .o0 => some .b | .o1 => some .c | .o2 => some .d | .o3 => some .e
  | .o4 => some .h | .o5 => some .l | .o6 => none | .o7 => some .a

/-- The field `y` of a CB opcode with `g = 0` (R110). -/
def RotOp.ofField : Oct → RotOp
  | .o0 => .rlc | .o1 => .rrc | .o2 => .rl | .o3 => .rr | .o4 => .sla | .o5 => .sra | .o6 => .swap | .o7 => .srl

/-- The fields `x`/`g`, `y` and `z` of an opcode byte (R101, R102). -/
def opX (op : Byte) : Nat := (op.extractLsb' 6 2).toNat
def opY (op : Byte) : Oct := .ofBits (op.extractLsb' 3 3)
def opZ (op : Byte) : Oct := .ofBits (op.extractLsb' 0 3)

/-! ### The base table (R111), row by row: row = `op[7:4]`, column = `op[3:0]` -/

def baseRow0 : Vector Instr 16 := #v[
  .nop, .ldBcN16, .ldAtBcA, .incBc, .incB, .decB, .ldBN8, .rlca,
  .ldAtN16Sp, .addHlBc, .ldAAtBc, .decBc, .incC, .decC, .ldCN8, .rrca]
def baseRow1 : Vector Instr 16 := #v[
  .stop, .ldDeN16, .ldAtDeA, .incDe, .incD, .decD, .ldDN8, .rla,
  .jrE8, .addHlDe, .ldAAtDe, .decDe, .incE, .decE, .ldEN8, .rra]
def baseRow2 : Vector Instr 16 := #v[
  .jrNzE8, .ldHlN16, .ldAtHlIncA, .incHl, .incH, .decH, .ldHN8, .daa,
  .jrZE8, .addHlHl, .ldAAtHlInc, .decHl, .incL, .decL, .ldLN8, .cpl]
def baseRow3 : Vector Instr 16 := #v[
  .jrNcE8, .ldSpN16, .ldAtHlDecA, .incSp, .incAtHl, .decAtHl, .ldAtHlN8, .scf,
  .jrCE8, .addHlSp, .ldAAtHlDec, .decSp, .incA, .decA, .ldAN8, .ccf]
def baseRow4 : Vector Instr 16 := #v[
  .ldBB, .ldBC, .ldBD, .ldBE, .ldBH, .ldBL, .ldBAtHl, .ldBA,
  .ldCB, .ldCC, .ldCD, .ldCE, .ldCH, .ldCL, .ldCAtHl, .ldCA]
def baseRow5 : Vector Instr 16 := #v[
  .ldDB, .ldDC, .ldDD, .ldDE, .ldDH, .ldDL, .ldDAtHl, .ldDA,
  .ldEB, .ldEC, .ldED, .ldEE, .ldEH, .ldEL, .ldEAtHl, .ldEA]
def baseRow6 : Vector Instr 16 := #v[
  .ldHB, .ldHC, .ldHD, .ldHE, .ldHH, .ldHL, .ldHAtHl, .ldHA,
  .ldLB, .ldLC, .ldLD, .ldLE, .ldLH, .ldLL, .ldLAtHl, .ldLA]
def baseRow7 : Vector Instr 16 := #v[
  .ldAtHlB, .ldAtHlC, .ldAtHlD, .ldAtHlE, .ldAtHlH, .ldAtHlL, .halt, .ldAtHlA,
  .ldAB, .ldAC, .ldAD, .ldAE, .ldAH, .ldAL, .ldAAtHl, .ldAA]
def baseRow8 : Vector Instr 16 := #v[
  .addAB, .addAC, .addAD, .addAE, .addAH, .addAL, .addAAtHl, .addAA,
  .adcAB, .adcAC, .adcAD, .adcAE, .adcAH, .adcAL, .adcAAtHl, .adcAA]
def baseRow9 : Vector Instr 16 := #v[
  .subB, .subC, .subD, .subE, .subH, .subL, .subAtHl, .subA,
  .sbcAB, .sbcAC, .sbcAD, .sbcAE, .sbcAH, .sbcAL, .sbcAAtHl, .sbcAA]
def baseRowA : Vector Instr 16 := #v[
  .andB, .andC, .andD, .andE, .andH, .andL, .andAtHl, .andA,
  .xorB, .xorC, .xorD, .xorE, .xorH, .xorL, .xorAtHl, .xorA]
def baseRowB : Vector Instr 16 := #v[
  .orB, .orC, .orD, .orE, .orH, .orL, .orAtHl, .orA,
  .cpB, .cpC, .cpD, .cpE, .cpH, .cpL, .cpAtHl, .cpA]
def baseRowC : Vector Instr 16 := #v[
  .retNz, .popBc, .jpNzN16, .jpN16, .callNzN16, .pushBc, .addAN8, .rst00,
  .retZ, .ret, .jpZN16, .prefixCB, .callZN16, .callN16, .adcAN8, .rst08]
def baseRowD : Vector Instr 16 := #v[
  .retNc, .popDe, .jpNcN16, .undefD3, .callNcN16, .pushDe, .subN8, .rst10,
  .retC, .reti, .jpCN16, .undefDB, .callCN16, .undefDD, .sbcAN8, .rst18]
def baseRowE : Vector Instr 16 := #v[
  .ldhAtN8A, .popHl, .ldAtCA, .undefE3, .undefE4, .pushHl, .andN8, .rst20,
  .addSpE8, .jpHl, .ldAtN16A, .undefEB, .undefEC, .undefED, .xorN8, .rst28]
def baseRowF : Vector Instr 16 := #v[
  .ldhAAtN8, .popAf, .ldAAtC, .di, .undefF4, .pushAf, .orN8, .rst30,
  .ldHlSpE8, .ldSpHl, .ldAAtN16, .ei, .undefFC, .undefFD, .cpN8, .rst38]

/-- The base opcode map (R111). -/
def baseMap : Vector (Vector Instr 16) 16 := #v[
  baseRow0, baseRow1, baseRow2, baseRow3, baseRow4, baseRow5, baseRow6, baseRow7,
  baseRow8, baseRow9, baseRowA, baseRowB, baseRowC, baseRowD, baseRowE, baseRowF]

/-- The entry of a 16-by-16 table for an opcode byte. -/
def entryAt {α : Type} (t : Vector (Vector α 16) 16) (op : Byte) : α :=
  (t.get (op.extractLsb' 4 4).toFin).get (op.extractLsb' 0 4).toFin

/-- The instruction of a base opcode byte (R111, R115: total, for every byte). -/
def decodeBase (op : Byte) : Instr :=
  entryAt baseMap op

/-- The instruction of a CB opcode byte by its fields `g`, `y`, `z` (R102, R104, R110, R113, R119). -/
def decodeCb (cbop : Byte) : Instr :=
  match opX cbop, Reg8.ofField (opZ cbop) with
  | 0, some r => .ofForm (.rotReg (.ofField (opY cbop)) r)
  | 0, none => .ofForm (.rotHl (.ofField (opY cbop)))
  | 1, some r => .ofForm (.bitReg (opY cbop) r)
  | 1, none => .ofForm (.bitHl (opY cbop))
  | 2, some r => .ofForm (.resReg (opY cbop) r)
  | 2, none => .ofForm (.resHl (opY cbop))
  | _, some r => .ofForm (.setReg (opY cbop) r)
  | _, none => .ofForm (.setHl (opY cbop))

/-! ### Declared cycle counts (R112, R113): the declared count, and the count when a condition holds -/

def cycleRow0 : Vector (Nat × Nat) 16 := #v[
  (1, 1), (3, 3), (2, 2), (2, 2), (1, 1), (1, 1), (2, 2), (1, 1),
  (5, 5), (2, 2), (2, 2), (2, 2), (1, 1), (1, 1), (2, 2), (1, 1)]
def cycleRow1 : Vector (Nat × Nat) 16 := #v[
  (1, 1), (3, 3), (2, 2), (2, 2), (1, 1), (1, 1), (2, 2), (1, 1),
  (3, 3), (2, 2), (2, 2), (2, 2), (1, 1), (1, 1), (2, 2), (1, 1)]
def cycleRow2 : Vector (Nat × Nat) 16 := #v[
  (2, 3), (3, 3), (2, 2), (2, 2), (1, 1), (1, 1), (2, 2), (1, 1),
  (2, 3), (2, 2), (2, 2), (2, 2), (1, 1), (1, 1), (2, 2), (1, 1)]
def cycleRow3 : Vector (Nat × Nat) 16 := #v[
  (2, 3), (3, 3), (2, 2), (2, 2), (3, 3), (3, 3), (3, 3), (1, 1),
  (2, 3), (2, 2), (2, 2), (2, 2), (1, 1), (1, 1), (2, 2), (1, 1)]
def cycleRow4 : Vector (Nat × Nat) 16 := #v[
  (1, 1), (1, 1), (1, 1), (1, 1), (1, 1), (1, 1), (2, 2), (1, 1),
  (1, 1), (1, 1), (1, 1), (1, 1), (1, 1), (1, 1), (2, 2), (1, 1)]
def cycleRow5 : Vector (Nat × Nat) 16 := #v[
  (1, 1), (1, 1), (1, 1), (1, 1), (1, 1), (1, 1), (2, 2), (1, 1),
  (1, 1), (1, 1), (1, 1), (1, 1), (1, 1), (1, 1), (2, 2), (1, 1)]
def cycleRow6 : Vector (Nat × Nat) 16 := #v[
  (1, 1), (1, 1), (1, 1), (1, 1), (1, 1), (1, 1), (2, 2), (1, 1),
  (1, 1), (1, 1), (1, 1), (1, 1), (1, 1), (1, 1), (2, 2), (1, 1)]
def cycleRow7 : Vector (Nat × Nat) 16 := #v[
  (2, 2), (2, 2), (2, 2), (2, 2), (2, 2), (2, 2), (1, 1), (2, 2),
  (1, 1), (1, 1), (1, 1), (1, 1), (1, 1), (1, 1), (2, 2), (1, 1)]
def cycleRow8 : Vector (Nat × Nat) 16 := #v[
  (1, 1), (1, 1), (1, 1), (1, 1), (1, 1), (1, 1), (2, 2), (1, 1),
  (1, 1), (1, 1), (1, 1), (1, 1), (1, 1), (1, 1), (2, 2), (1, 1)]
def cycleRow9 : Vector (Nat × Nat) 16 := #v[
  (1, 1), (1, 1), (1, 1), (1, 1), (1, 1), (1, 1), (2, 2), (1, 1),
  (1, 1), (1, 1), (1, 1), (1, 1), (1, 1), (1, 1), (2, 2), (1, 1)]
def cycleRowA : Vector (Nat × Nat) 16 := #v[
  (1, 1), (1, 1), (1, 1), (1, 1), (1, 1), (1, 1), (2, 2), (1, 1),
  (1, 1), (1, 1), (1, 1), (1, 1), (1, 1), (1, 1), (2, 2), (1, 1)]
def cycleRowB : Vector (Nat × Nat) 16 := #v[
  (1, 1), (1, 1), (1, 1), (1, 1), (1, 1), (1, 1), (2, 2), (1, 1),
  (1, 1), (1, 1), (1, 1), (1, 1), (1, 1), (1, 1), (2, 2), (1, 1)]
def cycleRowC : Vector (Nat × Nat) 16 := #v[
  (2, 5), (3, 3), (3, 4), (4, 4), (3, 6), (4, 4), (2, 2), (4, 4),
  (2, 5), (4, 4), (3, 4), (2, 2), (3, 6), (6, 6), (2, 2), (4, 4)]
def cycleRowD : Vector (Nat × Nat) 16 := #v[
  (2, 5), (3, 3), (3, 4), (1, 1), (3, 6), (4, 4), (2, 2), (4, 4),
  (2, 5), (4, 4), (3, 4), (1, 1), (3, 6), (1, 1), (2, 2), (4, 4)]
def cycleRowE : Vector (Nat × Nat) 16 := #v[
  (3, 3), (3, 3), (2, 2), (1, 1), (1, 1), (4, 4), (2, 2), (4, 4),
  (4, 4), (1, 1), (4, 4), (1, 1), (1, 1), (1, 1), (2, 2), (4, 4)]
def cycleRowF : Vector (Nat × Nat) 16 := #v[
  (3, 3), (3, 3), (2, 2), (1, 1), (1, 1), (4, 4), (2, 2), (4, 4),
  (3, 3), (2, 2), (4, 4), (1, 1), (1, 1), (1, 1), (2, 2), (4, 4)]

/-- R112's table: `n/m` as the pair (n, m), a count without a condition as (n, n). -/
def cycleMap : Vector (Vector (Nat × Nat) 16) 16 := #v[
  cycleRow0, cycleRow1, cycleRow2, cycleRow3, cycleRow4, cycleRow5, cycleRow6, cycleRow7,
  cycleRow8, cycleRow9, cycleRowA, cycleRowB, cycleRowC, cycleRowD, cycleRowE, cycleRowF]

/-- The declared count of a base opcode (R112), `declared(op)` of R141. -/
def declaredBase (op : Byte) : Nat :=
  (entryAt cycleMap op).1

/-- The count of a base opcode when its condition holds (R112's `m`, R152). -/
def takenBase (op : Byte) : Nat :=
  (entryAt cycleMap op).2

/-- The declared count of a CB opcode, the prefix and the CB byte included (R113), `declaredCB(cbop)` of R149. -/
def declaredCb (cbop : Byte) : Nat :=
  if opZ cbop ≠ .o6 then 2 else if opX cbop = 1 then 3 else 4

/-! ### Lengths (R114) -/

def lengthRow0 : Vector Nat 16 := #v[1, 3, 1, 1, 1, 1, 2, 1, 3, 1, 1, 1, 1, 1, 2, 1]
def lengthRow1 : Vector Nat 16 := #v[2, 3, 1, 1, 1, 1, 2, 1, 2, 1, 1, 1, 1, 1, 2, 1]
def lengthRow2 : Vector Nat 16 := #v[2, 3, 1, 1, 1, 1, 2, 1, 2, 1, 1, 1, 1, 1, 2, 1]
def lengthRow3 : Vector Nat 16 := #v[2, 3, 1, 1, 1, 1, 2, 1, 2, 1, 1, 1, 1, 1, 2, 1]
def lengthRow4 : Vector Nat 16 := #v[1, 1, 1, 1, 1, 1, 1, 1, 1, 1, 1, 1, 1, 1, 1, 1]
def lengthRow5 : Vector Nat 16 := #v[1, 1, 1, 1, 1, 1, 1, 1, 1, 1, 1, 1, 1, 1, 1, 1]
def lengthRow6 : Vector Nat 16 := #v[1, 1, 1, 1, 1, 1, 1, 1, 1, 1, 1, 1, 1, 1, 1, 1]
def lengthRow7 : Vector Nat 16 := #v[1, 1, 1, 1, 1, 1, 1, 1, 1, 1, 1, 1, 1, 1, 1, 1]
def lengthRow8 : Vector Nat 16 := #v[1, 1, 1, 1, 1, 1, 1, 1, 1, 1, 1, 1, 1, 1, 1, 1]
def lengthRow9 : Vector Nat 16 := #v[1, 1, 1, 1, 1, 1, 1, 1, 1, 1, 1, 1, 1, 1, 1, 1]
def lengthRowA : Vector Nat 16 := #v[1, 1, 1, 1, 1, 1, 1, 1, 1, 1, 1, 1, 1, 1, 1, 1]
def lengthRowB : Vector Nat 16 := #v[1, 1, 1, 1, 1, 1, 1, 1, 1, 1, 1, 1, 1, 1, 1, 1]
def lengthRowC : Vector Nat 16 := #v[1, 1, 3, 3, 3, 1, 2, 1, 1, 1, 3, 2, 3, 3, 2, 1]
def lengthRowD : Vector Nat 16 := #v[1, 1, 3, 1, 3, 1, 2, 1, 1, 1, 3, 1, 3, 1, 2, 1]
def lengthRowE : Vector Nat 16 := #v[2, 1, 1, 1, 1, 1, 2, 1, 2, 1, 3, 1, 1, 1, 2, 1]
def lengthRowF : Vector Nat 16 := #v[2, 1, 1, 1, 1, 1, 2, 1, 2, 1, 3, 1, 1, 1, 2, 1]

/-- R114's table. -/
def lengthMap : Vector (Vector Nat 16) 16 := #v[
  lengthRow0, lengthRow1, lengthRow2, lengthRow3, lengthRow4, lengthRow5, lengthRow6, lengthRow7,
  lengthRow8, lengthRow9, lengthRowA, lengthRowB, lengthRowC, lengthRowD, lengthRowE, lengthRowF]

/-- The length in bytes of the instruction a base opcode begins (R103, R114). -/
def lengthBase (op : Byte) : Nat :=
  entryAt lengthMap op

/-! ### Decoding an instruction as it stands in memory -/

/-- Why a list of bytes is no instruction: it ends too early. No encoding is refused (R115 to R117). -/
inductive DecodeError where
  /-- No byte at all. -/
  | noOpcode
  /-- The CB prefix without its CB byte. -/
  | noCbByte
  /-- An opcode without all its operand bytes. -/
  | noOperand (i : Instr)
  deriving DecidableEq, Repr

/-- The instruction at the front of a list of bytes, with the bytes after it (R100, R103). -/
def decode : List Byte → Except DecodeError (Code × List Byte)
  | [] => .error .noOpcode
  | op :: rest =>
    if op = 0xCB then
      match rest with
      | [] => .error .noCbByte
      | cbop :: rest' => .ok (⟨decodeCb cbop, []⟩, rest')
    else
      let n := lengthBase op - 1
      if rest.length < n then .error (.noOperand (decodeBase op))
      else .ok (⟨decodeBase op, rest.take n⟩, rest.drop n)

/-! ### Encoding -/

/-- An opcode value: an entry of the base table or of the CB table. -/
inductive Opcode where
  | base (op : Byte)
  | cb (cbop : Byte)
  deriving DecidableEq, Repr

/-- The opcode of every instruction (spec/opcode_table.json, `match`; R111, R113). -/
def Instr.opcode (i : Instr) : Opcode :=
  match i with
  | .nop => .base 0x00
  | .ldBcN16 => .base 0x01
  | .ldAtBcA => .base 0x02
  | .incBc => .base 0x03
  | .incB => .base 0x04
  | .decB => .base 0x05
  | .ldBN8 => .base 0x06
  | .rlca => .base 0x07
  | .ldAtN16Sp => .base 0x08
  | .addHlBc => .base 0x09
  | .ldAAtBc => .base 0x0A
  | .decBc => .base 0x0B
  | .incC => .base 0x0C
  | .decC => .base 0x0D
  | .ldCN8 => .base 0x0E
  | .rrca => .base 0x0F
  | .stop => .base 0x10
  | .ldDeN16 => .base 0x11
  | .ldAtDeA => .base 0x12
  | .incDe => .base 0x13
  | .incD => .base 0x14
  | .decD => .base 0x15
  | .ldDN8 => .base 0x16
  | .rla => .base 0x17
  | .jrE8 => .base 0x18
  | .addHlDe => .base 0x19
  | .ldAAtDe => .base 0x1A
  | .decDe => .base 0x1B
  | .incE => .base 0x1C
  | .decE => .base 0x1D
  | .ldEN8 => .base 0x1E
  | .rra => .base 0x1F
  | .jrNzE8 => .base 0x20
  | .ldHlN16 => .base 0x21
  | .ldAtHlIncA => .base 0x22
  | .incHl => .base 0x23
  | .incH => .base 0x24
  | .decH => .base 0x25
  | .ldHN8 => .base 0x26
  | .daa => .base 0x27
  | .jrZE8 => .base 0x28
  | .addHlHl => .base 0x29
  | .ldAAtHlInc => .base 0x2A
  | .decHl => .base 0x2B
  | .incL => .base 0x2C
  | .decL => .base 0x2D
  | .ldLN8 => .base 0x2E
  | .cpl => .base 0x2F
  | .jrNcE8 => .base 0x30
  | .ldSpN16 => .base 0x31
  | .ldAtHlDecA => .base 0x32
  | .incSp => .base 0x33
  | .incAtHl => .base 0x34
  | .decAtHl => .base 0x35
  | .ldAtHlN8 => .base 0x36
  | .scf => .base 0x37
  | .jrCE8 => .base 0x38
  | .addHlSp => .base 0x39
  | .ldAAtHlDec => .base 0x3A
  | .decSp => .base 0x3B
  | .incA => .base 0x3C
  | .decA => .base 0x3D
  | .ldAN8 => .base 0x3E
  | .ccf => .base 0x3F
  | .ldBB => .base 0x40
  | .ldBC => .base 0x41
  | .ldBD => .base 0x42
  | .ldBE => .base 0x43
  | .ldBH => .base 0x44
  | .ldBL => .base 0x45
  | .ldBAtHl => .base 0x46
  | .ldBA => .base 0x47
  | .ldCB => .base 0x48
  | .ldCC => .base 0x49
  | .ldCD => .base 0x4A
  | .ldCE => .base 0x4B
  | .ldCH => .base 0x4C
  | .ldCL => .base 0x4D
  | .ldCAtHl => .base 0x4E
  | .ldCA => .base 0x4F
  | .ldDB => .base 0x50
  | .ldDC => .base 0x51
  | .ldDD => .base 0x52
  | .ldDE => .base 0x53
  | .ldDH => .base 0x54
  | .ldDL => .base 0x55
  | .ldDAtHl => .base 0x56
  | .ldDA => .base 0x57
  | .ldEB => .base 0x58
  | .ldEC => .base 0x59
  | .ldED => .base 0x5A
  | .ldEE => .base 0x5B
  | .ldEH => .base 0x5C
  | .ldEL => .base 0x5D
  | .ldEAtHl => .base 0x5E
  | .ldEA => .base 0x5F
  | .ldHB => .base 0x60
  | .ldHC => .base 0x61
  | .ldHD => .base 0x62
  | .ldHE => .base 0x63
  | .ldHH => .base 0x64
  | .ldHL => .base 0x65
  | .ldHAtHl => .base 0x66
  | .ldHA => .base 0x67
  | .ldLB => .base 0x68
  | .ldLC => .base 0x69
  | .ldLD => .base 0x6A
  | .ldLE => .base 0x6B
  | .ldLH => .base 0x6C
  | .ldLL => .base 0x6D
  | .ldLAtHl => .base 0x6E
  | .ldLA => .base 0x6F
  | .ldAtHlB => .base 0x70
  | .ldAtHlC => .base 0x71
  | .ldAtHlD => .base 0x72
  | .ldAtHlE => .base 0x73
  | .ldAtHlH => .base 0x74
  | .ldAtHlL => .base 0x75
  | .halt => .base 0x76
  | .ldAtHlA => .base 0x77
  | .ldAB => .base 0x78
  | .ldAC => .base 0x79
  | .ldAD => .base 0x7A
  | .ldAE => .base 0x7B
  | .ldAH => .base 0x7C
  | .ldAL => .base 0x7D
  | .ldAAtHl => .base 0x7E
  | .ldAA => .base 0x7F
  | .addAB => .base 0x80
  | .addAC => .base 0x81
  | .addAD => .base 0x82
  | .addAE => .base 0x83
  | .addAH => .base 0x84
  | .addAL => .base 0x85
  | .addAAtHl => .base 0x86
  | .addAA => .base 0x87
  | .adcAB => .base 0x88
  | .adcAC => .base 0x89
  | .adcAD => .base 0x8A
  | .adcAE => .base 0x8B
  | .adcAH => .base 0x8C
  | .adcAL => .base 0x8D
  | .adcAAtHl => .base 0x8E
  | .adcAA => .base 0x8F
  | .subB => .base 0x90
  | .subC => .base 0x91
  | .subD => .base 0x92
  | .subE => .base 0x93
  | .subH => .base 0x94
  | .subL => .base 0x95
  | .subAtHl => .base 0x96
  | .subA => .base 0x97
  | .sbcAB => .base 0x98
  | .sbcAC => .base 0x99
  | .sbcAD => .base 0x9A
  | .sbcAE => .base 0x9B
  | .sbcAH => .base 0x9C
  | .sbcAL => .base 0x9D
  | .sbcAAtHl => .base 0x9E
  | .sbcAA => .base 0x9F
  | .andB => .base 0xA0
  | .andC => .base 0xA1
  | .andD => .base 0xA2
  | .andE => .base 0xA3
  | .andH => .base 0xA4
  | .andL => .base 0xA5
  | .andAtHl => .base 0xA6
  | .andA => .base 0xA7
  | .xorB => .base 0xA8
  | .xorC => .base 0xA9
  | .xorD => .base 0xAA
  | .xorE => .base 0xAB
  | .xorH => .base 0xAC
  | .xorL => .base 0xAD
  | .xorAtHl => .base 0xAE
  | .xorA => .base 0xAF
  | .orB => .base 0xB0
  | .orC => .base 0xB1
  | .orD => .base 0xB2
  | .orE => .base 0xB3
  | .orH => .base 0xB4
  | .orL => .base 0xB5
  | .orAtHl => .base 0xB6
  | .orA => .base 0xB7
  | .cpB => .base 0xB8
  | .cpC => .base 0xB9
  | .cpD => .base 0xBA
  | .cpE => .base 0xBB
  | .cpH => .base 0xBC
  | .cpL => .base 0xBD
  | .cpAtHl => .base 0xBE
  | .cpA => .base 0xBF
  | .retNz => .base 0xC0
  | .popBc => .base 0xC1
  | .jpNzN16 => .base 0xC2
  | .jpN16 => .base 0xC3
  | .callNzN16 => .base 0xC4
  | .pushBc => .base 0xC5
  | .addAN8 => .base 0xC6
  | .rst00 => .base 0xC7
  | .retZ => .base 0xC8
  | .ret => .base 0xC9
  | .jpZN16 => .base 0xCA
  | .prefixCB => .base 0xCB
  | .callZN16 => .base 0xCC
  | .callN16 => .base 0xCD
  | .adcAN8 => .base 0xCE
  | .rst08 => .base 0xCF
  | .retNc => .base 0xD0
  | .popDe => .base 0xD1
  | .jpNcN16 => .base 0xD2
  | .undefD3 => .base 0xD3
  | .callNcN16 => .base 0xD4
  | .pushDe => .base 0xD5
  | .subN8 => .base 0xD6
  | .rst10 => .base 0xD7
  | .retC => .base 0xD8
  | .reti => .base 0xD9
  | .jpCN16 => .base 0xDA
  | .undefDB => .base 0xDB
  | .callCN16 => .base 0xDC
  | .undefDD => .base 0xDD
  | .sbcAN8 => .base 0xDE
  | .rst18 => .base 0xDF
  | .ldhAtN8A => .base 0xE0
  | .popHl => .base 0xE1
  | .ldAtCA => .base 0xE2
  | .undefE3 => .base 0xE3
  | .undefE4 => .base 0xE4
  | .pushHl => .base 0xE5
  | .andN8 => .base 0xE6
  | .rst20 => .base 0xE7
  | .addSpE8 => .base 0xE8
  | .jpHl => .base 0xE9
  | .ldAtN16A => .base 0xEA
  | .undefEB => .base 0xEB
  | .undefEC => .base 0xEC
  | .undefED => .base 0xED
  | .xorN8 => .base 0xEE
  | .rst28 => .base 0xEF
  | .ldhAAtN8 => .base 0xF0
  | .popAf => .base 0xF1
  | .ldAAtC => .base 0xF2
  | .di => .base 0xF3
  | .undefF4 => .base 0xF4
  | .pushAf => .base 0xF5
  | .orN8 => .base 0xF6
  | .rst30 => .base 0xF7
  | .ldHlSpE8 => .base 0xF8
  | .ldSpHl => .base 0xF9
  | .ldAAtN16 => .base 0xFA
  | .ei => .base 0xFB
  | .undefFC => .base 0xFC
  | .undefFD => .base 0xFD
  | .cpN8 => .base 0xFE
  | .rst38 => .base 0xFF
  | .rlcB => .cb 0x00
  | .rlcC => .cb 0x01
  | .rlcD => .cb 0x02
  | .rlcE => .cb 0x03
  | .rlcH => .cb 0x04
  | .rlcL => .cb 0x05
  | .rlcAtHl => .cb 0x06
  | .rlcA => .cb 0x07
  | .rrcB => .cb 0x08
  | .rrcC => .cb 0x09
  | .rrcD => .cb 0x0A
  | .rrcE => .cb 0x0B
  | .rrcH => .cb 0x0C
  | .rrcL => .cb 0x0D
  | .rrcAtHl => .cb 0x0E
  | .rrcA => .cb 0x0F
  | .rlB => .cb 0x10
  | .rlC => .cb 0x11
  | .rlD => .cb 0x12
  | .rlE => .cb 0x13
  | .rlH => .cb 0x14
  | .rlL => .cb 0x15
  | .rlAtHl => .cb 0x16
  | .rlA => .cb 0x17
  | .rrB => .cb 0x18
  | .rrC => .cb 0x19
  | .rrD => .cb 0x1A
  | .rrE => .cb 0x1B
  | .rrH => .cb 0x1C
  | .rrL => .cb 0x1D
  | .rrAtHl => .cb 0x1E
  | .rrA => .cb 0x1F
  | .slaB => .cb 0x20
  | .slaC => .cb 0x21
  | .slaD => .cb 0x22
  | .slaE => .cb 0x23
  | .slaH => .cb 0x24
  | .slaL => .cb 0x25
  | .slaAtHl => .cb 0x26
  | .slaA => .cb 0x27
  | .sraB => .cb 0x28
  | .sraC => .cb 0x29
  | .sraD => .cb 0x2A
  | .sraE => .cb 0x2B
  | .sraH => .cb 0x2C
  | .sraL => .cb 0x2D
  | .sraAtHl => .cb 0x2E
  | .sraA => .cb 0x2F
  | .swapB => .cb 0x30
  | .swapC => .cb 0x31
  | .swapD => .cb 0x32
  | .swapE => .cb 0x33
  | .swapH => .cb 0x34
  | .swapL => .cb 0x35
  | .swapAtHl => .cb 0x36
  | .swapA => .cb 0x37
  | .srlB => .cb 0x38
  | .srlC => .cb 0x39
  | .srlD => .cb 0x3A
  | .srlE => .cb 0x3B
  | .srlH => .cb 0x3C
  | .srlL => .cb 0x3D
  | .srlAtHl => .cb 0x3E
  | .srlA => .cb 0x3F
  | .bit0B => .cb 0x40
  | .bit0C => .cb 0x41
  | .bit0D => .cb 0x42
  | .bit0E => .cb 0x43
  | .bit0H => .cb 0x44
  | .bit0L => .cb 0x45
  | .bit0AtHl => .cb 0x46
  | .bit0A => .cb 0x47
  | .bit1B => .cb 0x48
  | .bit1C => .cb 0x49
  | .bit1D => .cb 0x4A
  | .bit1E => .cb 0x4B
  | .bit1H => .cb 0x4C
  | .bit1L => .cb 0x4D
  | .bit1AtHl => .cb 0x4E
  | .bit1A => .cb 0x4F
  | .bit2B => .cb 0x50
  | .bit2C => .cb 0x51
  | .bit2D => .cb 0x52
  | .bit2E => .cb 0x53
  | .bit2H => .cb 0x54
  | .bit2L => .cb 0x55
  | .bit2AtHl => .cb 0x56
  | .bit2A => .cb 0x57
  | .bit3B => .cb 0x58
  | .bit3C => .cb 0x59
  | .bit3D => .cb 0x5A
  | .bit3E => .cb 0x5B
  | .bit3H => .cb 0x5C
  | .bit3L => .cb 0x5D
  | .bit3AtHl => .cb 0x5E
  | .bit3A => .cb 0x5F
  | .bit4B => .cb 0x60
  | .bit4C => .cb 0x61
  | .bit4D => .cb 0x62
  | .bit4E => .cb 0x63
  | .bit4H => .cb 0x64
  | .bit4L => .cb 0x65
  | .bit4AtHl => .cb 0x66
  | .bit4A => .cb 0x67
  | .bit5B => .cb 0x68
  | .bit5C => .cb 0x69
  | .bit5D => .cb 0x6A
  | .bit5E => .cb 0x6B
  | .bit5H => .cb 0x6C
  | .bit5L => .cb 0x6D
  | .bit5AtHl => .cb 0x6E
  | .bit5A => .cb 0x6F
  | .bit6B => .cb 0x70
  | .bit6C => .cb 0x71
  | .bit6D => .cb 0x72
  | .bit6E => .cb 0x73
  | .bit6H => .cb 0x74
  | .bit6L => .cb 0x75
  | .bit6AtHl => .cb 0x76
  | .bit6A => .cb 0x77
  | .bit7B => .cb 0x78
  | .bit7C => .cb 0x79
  | .bit7D => .cb 0x7A
  | .bit7E => .cb 0x7B
  | .bit7H => .cb 0x7C
  | .bit7L => .cb 0x7D
  | .bit7AtHl => .cb 0x7E
  | .bit7A => .cb 0x7F
  | .res0B => .cb 0x80
  | .res0C => .cb 0x81
  | .res0D => .cb 0x82
  | .res0E => .cb 0x83
  | .res0H => .cb 0x84
  | .res0L => .cb 0x85
  | .res0AtHl => .cb 0x86
  | .res0A => .cb 0x87
  | .res1B => .cb 0x88
  | .res1C => .cb 0x89
  | .res1D => .cb 0x8A
  | .res1E => .cb 0x8B
  | .res1H => .cb 0x8C
  | .res1L => .cb 0x8D
  | .res1AtHl => .cb 0x8E
  | .res1A => .cb 0x8F
  | .res2B => .cb 0x90
  | .res2C => .cb 0x91
  | .res2D => .cb 0x92
  | .res2E => .cb 0x93
  | .res2H => .cb 0x94
  | .res2L => .cb 0x95
  | .res2AtHl => .cb 0x96
  | .res2A => .cb 0x97
  | .res3B => .cb 0x98
  | .res3C => .cb 0x99
  | .res3D => .cb 0x9A
  | .res3E => .cb 0x9B
  | .res3H => .cb 0x9C
  | .res3L => .cb 0x9D
  | .res3AtHl => .cb 0x9E
  | .res3A => .cb 0x9F
  | .res4B => .cb 0xA0
  | .res4C => .cb 0xA1
  | .res4D => .cb 0xA2
  | .res4E => .cb 0xA3
  | .res4H => .cb 0xA4
  | .res4L => .cb 0xA5
  | .res4AtHl => .cb 0xA6
  | .res4A => .cb 0xA7
  | .res5B => .cb 0xA8
  | .res5C => .cb 0xA9
  | .res5D => .cb 0xAA
  | .res5E => .cb 0xAB
  | .res5H => .cb 0xAC
  | .res5L => .cb 0xAD
  | .res5AtHl => .cb 0xAE
  | .res5A => .cb 0xAF
  | .res6B => .cb 0xB0
  | .res6C => .cb 0xB1
  | .res6D => .cb 0xB2
  | .res6E => .cb 0xB3
  | .res6H => .cb 0xB4
  | .res6L => .cb 0xB5
  | .res6AtHl => .cb 0xB6
  | .res6A => .cb 0xB7
  | .res7B => .cb 0xB8
  | .res7C => .cb 0xB9
  | .res7D => .cb 0xBA
  | .res7E => .cb 0xBB
  | .res7H => .cb 0xBC
  | .res7L => .cb 0xBD
  | .res7AtHl => .cb 0xBE
  | .res7A => .cb 0xBF
  | .set0B => .cb 0xC0
  | .set0C => .cb 0xC1
  | .set0D => .cb 0xC2
  | .set0E => .cb 0xC3
  | .set0H => .cb 0xC4
  | .set0L => .cb 0xC5
  | .set0AtHl => .cb 0xC6
  | .set0A => .cb 0xC7
  | .set1B => .cb 0xC8
  | .set1C => .cb 0xC9
  | .set1D => .cb 0xCA
  | .set1E => .cb 0xCB
  | .set1H => .cb 0xCC
  | .set1L => .cb 0xCD
  | .set1AtHl => .cb 0xCE
  | .set1A => .cb 0xCF
  | .set2B => .cb 0xD0
  | .set2C => .cb 0xD1
  | .set2D => .cb 0xD2
  | .set2E => .cb 0xD3
  | .set2H => .cb 0xD4
  | .set2L => .cb 0xD5
  | .set2AtHl => .cb 0xD6
  | .set2A => .cb 0xD7
  | .set3B => .cb 0xD8
  | .set3C => .cb 0xD9
  | .set3D => .cb 0xDA
  | .set3E => .cb 0xDB
  | .set3H => .cb 0xDC
  | .set3L => .cb 0xDD
  | .set3AtHl => .cb 0xDE
  | .set3A => .cb 0xDF
  | .set4B => .cb 0xE0
  | .set4C => .cb 0xE1
  | .set4D => .cb 0xE2
  | .set4E => .cb 0xE3
  | .set4H => .cb 0xE4
  | .set4L => .cb 0xE5
  | .set4AtHl => .cb 0xE6
  | .set4A => .cb 0xE7
  | .set5B => .cb 0xE8
  | .set5C => .cb 0xE9
  | .set5D => .cb 0xEA
  | .set5E => .cb 0xEB
  | .set5H => .cb 0xEC
  | .set5L => .cb 0xED
  | .set5AtHl => .cb 0xEE
  | .set5A => .cb 0xEF
  | .set6B => .cb 0xF0
  | .set6C => .cb 0xF1
  | .set6D => .cb 0xF2
  | .set6E => .cb 0xF3
  | .set6H => .cb 0xF4
  | .set6L => .cb 0xF5
  | .set6AtHl => .cb 0xF6
  | .set6A => .cb 0xF7
  | .set7B => .cb 0xF8
  | .set7C => .cb 0xF9
  | .set7D => .cb 0xFA
  | .set7E => .cb 0xFB
  | .set7H => .cb 0xFC
  | .set7L => .cb 0xFD
  | .set7AtHl => .cb 0xFE
  | .set7A => .cb 0xFF

/-- The opcode bytes: one for a base opcode, the prefix and the CB byte for a CB opcode (R100). -/
def Opcode.bytes : Opcode → List Byte
  | .base op => [op]
  | .cb cbop => [0xCB, cbop]

/-- The bytes of an instruction, in the order they stand in memory. -/
def encode (c : Code) : List Byte :=
  c.instr.opcode.bytes ++ c.operands

/-- The instruction of an opcode value: the two tables together. -/
def Opcode.instr : Opcode → Instr
  | .base op => decodeBase op
  | .cb cbop => decodeCb cbop

/-- The declared cycle count of an instruction's entry (R112, R113, R115). -/
def Instr.cycles (i : Instr) : Nat :=
  match i.opcode with
  | .base op => declaredBase op
  | .cb cbop => declaredCb cbop

/-- The cycle count of an instruction when its condition holds (R112); the declared count where it has none. -/
def Instr.takenCycles (i : Instr) : Nat :=
  match i.opcode with
  | .base op => takenBase op
  | .cb cbop => declaredCb cbop

/-! ### Words numbered as spec/opcode_table.json numbers them -/

/-- The first three bytes of an instruction whose bits are `w`. The table writes the two-byte patterns of the formats
FCB and FSTOP as one number with the FIRST byte in bits 15 to 8 (`match` 0xCB7C for CB 7C, 0x1000 for STOP), and
every other row by its opcode byte alone, in bits 7 to 0 (notes/assumptions/12.md). Bits above `nbits` are 0. -/
def tableBytes (nbits w : Nat) : List Byte :=
  let v := w % 2 ^ nbits
  if nbits = 16 ∧ (v / 256 = 0xCB ∨ v / 256 = 0x10) then
    [BitVec.ofNat 8 (v / 256), BitVec.ofNat 8 v, 0]
  else
    [BitVec.ofNat 8 v, BitVec.ofNat 8 (v / 256), BitVec.ofNat 8 (v / 65536)]

/-- The instruction the decoder reads from such a word. A row of one byte is an entry of the base table, and 0xCB alone
is that table's entry `PREFIX CB` (R388); a longer word is decoded as it stands in memory. -/
def decodeTableWord (nbits w : Nat) : Option Instr :=
  if nbits ≤ 8 then some (decodeBase (BitVec.ofNat 8 (w % 2 ^ nbits)))
  else
    match decode (tableBytes nbits w) with
    | .ok (c, _) => some c.instr
    | .error _ => none

end Sys2Proof
end

