-- ==== Sys2Proof/Machine/Memory.lean ====
section
/-! DEFINITION. The contents of the collaborator's memory as plain data: a list of address and byte pairs in one
canonical form (addresses strictly rising, no entry equal to what an unlisted address reads as). -/

namespace Sys2Proof.Machine

/-- What an address that is not listed reads as: 0x00, the byte the programs of spec/95_test_vectors.md find
everywhere else; the spec gives RAM no power-on contents (notes/assumptions/3.md, DESIGN CHOICE). -/
def Memory.unlisted : BitVec 8 := 0x00

/-- The byte at an address. -/
def Memory.get : List Host.Cell → Nat → BitVec 8
  | [], _ => Memory.unlisted
  | (b, w) :: rest, a => if b = a then w else Memory.get rest a

/-- The contents after a byte is stored at an address; the canonical form is kept. -/
def Memory.set : List Host.Cell → Nat → BitVec 8 → List Host.Cell
  | [], a, v => if v = Memory.unlisted then [] else [(a, v)]
  | (b, w) :: rest, a, v =>
    if a < b then
      if v = Memory.unlisted then (b, w) :: rest else (a, v) :: (b, w) :: rest
    else if a = b then
      if v = Memory.unlisted then rest else (a, v) :: rest
    else (b, w) :: Memory.set rest a v

/-- The addresses rise strictly from `low` on and stay below 0x10000, and no entry holds the unlisted byte. -/
def Memory.risesFrom : Nat → List Host.Cell → Bool
  | _, [] => true
  | low, (a, v) :: rest =>
    decide (low ≤ a) && decide (a < 0x10000) && decide (v ≠ Memory.unlisted) && Memory.risesFrom (a + 1) rest

/-- The canonical form. -/
def Memory.wf (m : List Host.Cell) : Bool := Memory.risesFrom 0 m

end Sys2Proof.Machine
end

