-- ==== Sys2Proof/Machine/Bits.lean ====
section
/-! DEFINITION. Halves of a 16-bit value, byte order of a pair of bytes, and the extensions of spec/00_scope.md R8. -/

namespace Sys2Proof.Machine

/-- `v[15:8]`. -/
def highByte (v : Word) : Byte := v.extractLsb' 8 8

/-- `v[7:0]`. -/
def lowByte (v : Word) : Byte := v.extractLsb' 0 8

/-- `(hi << 8) | lo` (R8, R31, R108). -/
def joinBytes (hi lo : Byte) : Word := hi ++ lo

/-- `sext_16(v)` (R8): the 8-bit `v` as a two's-complement value in 16 bits. -/
def sext16 (v : Byte) : Word := v.signExtend 16

/-- `0xFF00 + n` (R108): an address of the high page. -/
def highPage (n : Byte) : Word := joinBytes 0xFF n

end Sys2Proof.Machine
end

