-- ==== Sys2Proof/Config.lean ====
section
/-! DEFINITION. What lies outside the block and the spec leaves open (spec/00_scope.md R7): the two free
values of the model, each a constant without a body, and the record of a bus transaction they read. -/

namespace Sys2Proof

/-- The direction of a bus transaction (spec/20_memory.md R72). -/
inductive Access where
  | read
  | write
  deriving DecidableEq, Repr

/-- One 8-bit bus transaction of the block (R72): the step that made it (counted from 1), its direction,
its address and the byte that went over the bus. -/
structure BusEvent where
  cycle  : Nat
  access : Access
  addr   : Word
  data   : Byte
  deriving DecidableEq, Repr

/-- FREE VALUE (R7 `BUS`, 92_eei_decisions.md D13): the byte a device of the bus collaborator answers to a
read, as a function of the step number, of the history of the transactions on the external bus (newest
first) and of the address. Nothing is known about it (notes/assumptions/4.md). -/
opaque Config.busRead : Nat → List BusEvent → Word → Byte

/-- FREE VALUE (R7 `STOP_WAKE`, D16): a wake-up predicate on the block's state, for a machine whose parameter
`STOP_WAKE` is not a mask over IF. It reads the list of all register values (`State.words`).
Nothing is known about it (notes/assumptions/7.md). -/
opaque Config.stopWake : List Nat → Bool

end Sys2Proof
end

