-- ==== Sys2Proof/Machine/State.lean ====
section
/-! DEFINITION. The state of the machine: everything spec/10_state.md gives the CORE block, and beside it, as plain
data, the parameters (spec/00_scope.md R7) and the outside world the block meets at its ports (spec/40_sequencer.md
R140): the bus collaborator, the host's inputs, the record of the bus transactions. -/

namespace Sys2Proof.Machine

/-- The four flags of F (R35). The low nibble of F is hardwired to 0 and holds no state. -/
structure Flags where
  /-- Zero, F[7]. -/
  z : Bool
  /-- Subtract, F[6]. -/
  n : Bool
  /-- Half-carry (`Hf`), F[5]. -/
  h : Bool
  /-- Carry (`Cf`), F[4]. -/
  c : Bool
  deriving DecidableEq, Repr

/-- The registers whose reset values the spec leaves to the parameter `RESET_REGS` (R30, R33, R50). -/
structure RegFile where
  a : Byte
  b : Byte
  c : Byte
  d : Byte
  e : Byte
  h : Byte
  l : Byte
  flags : Flags
  sp : Word
  deriving DecidableEq, Repr

/-- The five interrupt sources (R402), in the order of their bits in IE and IF. -/
inductive IntSource where
  | vblank
  | lcd
  | timer
  | serial
  | joypad
  deriving DecidableEq, Repr

/-- What a continuation runs (R46): the interrupt-acceptance sequence, or the microcode of an instruction (a base
opcode, the CB prefix before its second byte, or a CB opcode). -/
inductive Routine where
  | isr
  | instr (i : Instr)
  deriving DecidableEq, Repr

/-- The continuation (R46): the routine, the index `k` of the next segment, and the captured locals. A local that the
routine has not written holds no value. -/
structure Continuation where
  routine : Routine
  k       : Nat
  opAddr  : Option Word
  op      : Option Byte
  cbop    : Option Byte
  lo      : Option Byte
  hi      : Option Byte
  tmp     : Option Byte
  deriving DecidableEq, Repr

/-- What answers in an address range of the bus collaborator (R70): memory that keeps what is written, memory that
discards writes, or a device whose answers the block knows nothing about. -/
inductive RegionKind where
  | ram
  | rom
  | device
  deriving DecidableEq, Repr

/-- An address-range handler of the bus collaborator (R70): it accepts the addresses `first` to `last`. -/
structure Region where
  first : Word
  last  : Word
  kind  : RegionKind
  deriving DecidableEq, Repr

/-- The parameter `STOP_WAKE` (R7, D16): Stopped ends when IF has a bit of a mask, or when a predicate holds of which
nothing is known (`Config.stopWake`). -/
inductive StopWake where
  | ifMask (m : BitVec 5)
  | unspecified
  deriving DecidableEq, Repr

/-- The parameters of R7 that are not inputs. No step changes them. -/
structure Params where
  ieUpperStored : Bool
  stopWake      : StopWake
  resetRegs     : RegFile
  deriving DecidableEq, Repr

/-- What the host presents for one step (R140, R480): whether it asserts `reset` before the step, and the interrupt
requests `IRQ` the step samples. -/
structure HostInput where
  reset : Bool
  irq   : BitVec 5
  deriving DecidableEq, Repr

/-- The state of the machine. -/
structure State where
  /-- A to L, the flags and SP (R30, R33, R35). -/
  regs : RegFile
  /-- PC (R32). -/
  pc : Word
  /-- The interrupt master enable (R38). -/
  ime : Bool
  /-- The enable mask at 0xFFFF (R39); bits 7 to 5 hold a value only where `ieUpperStored` is set. -/
  ie : Byte
  /-- The pending mask IF at 0xFF0F, its five stored bits (R40). -/
  ifl : BitVec 5
  /-- EI was just executed (R44). -/
  delay : Bool
  /-- Waiting after HALT (R43). -/
  halted : Bool
  /-- Waiting after STOP (R43). -/
  stopped : Bool
  /-- The next opcode fetch does not increment PC (R43). -/
  haltBug : Bool
  /-- M-cycles of the current instruction or sequence still to run (R42). -/
  cyclesLeft : Nat
  /-- The interrupt the current acceptance sequence will service (R45). -/
  pendingVector : Option IntSource
  /-- The in-flight instruction or sequence (R46). -/
  cont : Option Continuation
  /-- The diagnostics of unimplemented opcodes, in the order reported (R48). -/
  diagLog : List (Byte × Word)
  /-- The contents of the collaborator's memory: address and byte, in canonical form (Machine/Memory.lean). -/
  mem : List Host.Cell
  /-- The collaborator's ordered handlers (R70). -/
  busMap : List Region
  /-- Every bus transaction of the block, newest first (R72, R85). -/
  busLog : List BusEvent
  /-- The number of steps made; the model's own, read by no instruction. -/
  clock : Nat
  /-- What the host presents for the coming steps, next first; no entry stands for no reset and IRQ 0 (R406). -/
  inputs : List HostInput
  /-- The parameters (R7). -/
  params : Params
  deriving DecidableEq, Repr

/-- Why the machine stops. None of these is in the spec: each is raised only in a state that no run reaches
(`Sys2Proof.Inv`), so stopping there is safe. -/
inductive Fault where
  /-- Raised by `perform` and `runSegment` when no instruction is in flight where one must be (R46). Safe. -/
  | noContinuation
  /-- Raised by `perform` when the segment index is past the routine's schedule (R46, R150). Safe. -/
  | segmentOverrun
  /-- Raised by a segment that reads a local no earlier segment wrote: U13 lets a model fault there (R151). Safe. -/
  | localUnset
  deriving DecidableEq, Repr

/-- Why an instruction has no meaning. -/
inductive Refusal where
  /-- Raised by an arm of `exec` whose instruction is not modelled; safe. No arm raises it now. -/
  | notModelled (mnemonic : String)
  deriving DecidableEq, Repr

/-- The registers of the reset state for which the spec states no value (R50): all 0
(notes/assumptions/1.md, DESIGN CHOICE). -/
def RegFile.zero : RegFile :=
  ⟨0, 0, 0, 0, 0, 0, 0, ⟨false, false, false, false⟩, 0⟩

/-- The post-boot register profile of R452, another value of `RESET_REGS` (it goes with PC 0x0100). -/
def RegFile.postBoot : RegFile :=
  ⟨0x01, 0x00, 0x13, 0x00, 0xD8, 0x01, 0x4D, ⟨true, false, true, true⟩, 0xFFFE⟩

/-- The parameters at their defaults (R7), `RESET_REGS` apart. -/
def Params.default : Params :=
  ⟨false, .ifMask 0x10, RegFile.zero⟩

/-- The state after power-on (R50, R450, R451), on the reference bus of R86. -/
def State.reset : State where
  regs := RegFile.zero
  pc := 0x0000
  ime := false
  ie := 0x00
  ifl := 0x01
  delay := false
  halted := false
  stopped := false
  haltBug := false
  cyclesLeft := 0
  pendingVector := none
  cont := none
  diagLog := []
  mem := []
  busMap := [⟨0x0000, 0xFFFF, .ram⟩]
  busLog := []
  clock := 0
  inputs := []
  params := Params.default

/-- The start of a platform that skips the boot program (R452). A later reset event does not come back to its PC
(notes/assumptions/15.md, DESIGN CHOICE). -/
def State.postBoot : State :=
  { State.reset with
    regs := RegFile.postBoot
    pc := 0x0100
    params := { Params.default with resetRegs := RegFile.postBoot } }

end Sys2Proof.Machine
end

