-- ==== Sys2Proof/Machine/Flags.lean ====
section
/-! DEFINITION. F as a byte, and every computation of a result and its flags: the 8-bit and 16-bit add and subtract
(spec/43_alu8.md R245, spec/44_alu16.md R280, R283), the accumulator operations (R250 to R257), INC and DEC
(R258 to R261), DAA (R262), the rotate function (spec/45_rotate_shift.md R321) and the bit operations
(spec/46_bit.md). -/

namespace Sys2Proof.Machine

/-- F as a byte (R35): Z, N, Hf, Cf in bits 7 to 4, the low nibble 0. -/
def Flags.toByte (f : Flags) : Byte :=
  (BitVec.ofBool f.z ++ BitVec.ofBool f.n ++ BitVec.ofBool f.h ++ BitVec.ofBool f.c ++ (0 : BitVec 4) : BitVec 8)

/-- The flags a byte written to F sets (R35): "any write of a byte `v` to `F` stores `v & 0xF0`". -/
def Flags.ofByte (v : Byte) : Flags :=
  ⟨v.getLsbD 7, v.getLsbD 6, v.getLsbD 5, v.getLsbD 4⟩

/-- A boolean as a number of `w` bits (R8). -/
def bit (w : Nat) (b : Bool) : BitVec w := (BitVec.ofBool b).setWidth w

/-- `add8` (R245). -/
def add8 (a b : Byte) (cin : Bool) : Byte × Flags :=
  let res : BitVec 9 := a.setWidth 9 + b.setWidth 9 + bit 9 cin
  let info : BitVec 9 := res ^^^ (a.setWidth 9 ^^^ b.setWidth 9)
  let r : Byte := res.setWidth 8
  (r, ⟨r == 0, false, info.getLsbD 4, info.getLsbD 8⟩)

/-- `sub8` (R245): the difference modulo 512, in 9 bits. -/
def sub8 (a b : Byte) (cin : Bool) : Byte × Flags :=
  let res : BitVec 9 := a.setWidth 9 - b.setWidth 9 - bit 9 cin
  let info : BitVec 9 := res ^^^ (a.setWidth 9 ^^^ b.setWidth 9)
  let r : Byte := res.setWidth 8
  (r, ⟨r == 0, true, info.getLsbD 4, info.getLsbD 8⟩)

/-- The flags of AND, XOR, OR (R254 to R256): Z from the result, N and C 0, H as given. -/
def logicFlags (r : Byte) (h : Bool) : Flags := ⟨r == 0, false, h, false⟩

/-- "operate" of an accumulator operation (R246, R250 to R257): the value left in A and the flags, from A, the
operand and the flags before. -/
def alu (op : AluOp) (a v : Byte) (f : Flags) : Byte × Flags :=
  match op with
  | .add => add8 a v false
  | .adc => add8 a v f.c
  | .sub => sub8 a v false
  | .sbc => sub8 a v f.c
  | .and => (a &&& v, logicFlags (a &&& v) true)
  | .xor => (a ^^^ v, logicFlags (a ^^^ v) false)
  | .or => (a ||| v, logicFlags (a ||| v) false)
  | .cp => (a, (sub8 a v false).2)

/-- INC of a byte (R258, R259): `add8(v, 1, 0)`, the carry kept. -/
def inc8 (v : Byte) (f : Flags) : Byte × Flags :=
  let r := add8 v 1 false
  (r.1, { r.2 with c := f.c })

/-- DEC of a byte (R260, R261): `sub8(v, 1, 0)`, the carry kept. -/
def dec8 (v : Byte) (f : Flags) : Byte × Flags :=
  let r := sub8 v 1 false
  (r.1, { r.2 with c := f.c })

/-- DAA (R262). The sum may pass 0xFF: only its low byte is kept, and its low nibble is not changed by that. -/
def daa8 (a : Byte) (f : Flags) : Byte × Flags :=
  let r : Byte × Bool :=
    if f.n = false then
      let s := if f.c ∨ 0x99 < a.toNat then (a + 0x60, true) else (a, f.c)
      if f.h ∨ 0x09 < (s.1 &&& 0x0F).toNat then (s.1 + 0x06, s.2) else s
    else
      let s := if f.c then a - 0x60 else a
      (if f.h then s - 0x06 else s, f.c)
  (r.1, ⟨r.1 == 0, f.n, false, r.2⟩)

/-- ADD HL (R280): the sum, and the flags from the carries at bits 12 and 16, Z kept. -/
def add16 (a b : Word) (f : Flags) : Word × Flags :=
  let res : BitVec 17 := a.setWidth 17 + b.setWidth 17
  let info : BitVec 17 := res ^^^ (a.setWidth 17 ^^^ b.setWidth 17)
  (res.setWidth 16, ⟨f.z, false, info.getLsbD 12, info.getLsbD 16⟩)

/-- SP plus a signed displacement (R283, R284): the sum, and the flags of the unsigned add of the low bytes. -/
def addSigned (sp : Word) (e : Byte) : Word × Flags :=
  (sp + e.signExtend 16,
    ⟨false, false,
      decide (0x0F < (sp &&& 0x000F).toNat + (e &&& 0x0F).toNat),
      decide (0xFF < (sp &&& 0x00FF).toNat + e.toNat)⟩)

/-- The rotate function (R321): the result and the carry out, from the value and the carry. -/
def rot (op : RotOp) (v : Byte) (c : Bool) : Byte × Bool :=
  match op with
  | .rlc => ((v <<< 1) ||| bit 8 (v.getLsbD 7), v.getLsbD 7)
  | .rrc => ((v >>> 1) ||| (bit 8 (v.getLsbD 0) <<< 7), v.getLsbD 0)
  | .rl => ((v <<< 1) ||| bit 8 c, v.getLsbD 7)
  | .rr => ((v >>> 1) ||| (bit 8 c <<< 7), v.getLsbD 0)
  | .sla => (v <<< 1, v.getLsbD 7)
  | .sra => ((v >>> 1) ||| (v &&& 0x80), v.getLsbD 0)
  | .swap => ((v <<< 4) ||| (v >>> 4), false)
  | .srl => (v >>> 1, v.getLsbD 0)

/-- A CB rotate, shift or SWAP with its flags (R321). -/
def rotCb (op : RotOp) (v : Byte) (f : Flags) : Byte × Flags :=
  let r := rot op v f.c
  (r.1, ⟨r.1 == 0, false, false, r.2⟩)

/-- An accumulator rotate with its flags: Z is always cleared (R300 to R303). -/
def rotAcc (op : RotOp) (v : Byte) (f : Flags) : Byte × Flags :=
  let r := rot op v f.c
  (r.1, ⟨false, false, false, r.2⟩)

/-- The flags of BIT (R330, R331): Z is the complement of the bit, N 0, H 1, C kept. -/
def bitFlags (b : Nat) (v : Byte) (f : Flags) : Flags :=
  ⟨!v.getLsbD b, false, true, f.c⟩

/-- RES (R332): `v & ~(1 << b)`. -/
def clearBit (b : Nat) (v : Byte) : Byte := v &&& ~~~((1 : Byte) <<< b)

/-- SET (R334): `v | (1 << b)`. -/
def assertBit (b : Nat) (v : Byte) : Byte := v ||| ((1 : Byte) <<< b)

end Sys2Proof.Machine
end

