-- ==== Sys2Proof/Machine/Operands.lean ====
section
/-! DEFINITION. Reading and writing operands: the registers by selector (spec/30_encoding.md R104 to R106), the pairs
(spec/10_state.md R31), the conditions (R107). Every access of an instruction to a register goes through here. -/

namespace Sys2Proof.Machine

/-- `x[r]` (R9, R104). -/
def RegFile.get (f : RegFile) (r : Reg8) : Byte :=
  match r with
  | .a => f.a | .b => f.b | .c => f.c | .d => f.d | .e => f.e | .h => f.h | .l => f.l

/-- `x[r] <- v` (R9, R104). -/
def RegFile.set (f : RegFile) (r : Reg8) (v : Byte) : RegFile :=
  match r with
  | .a => { f with a := v }
  | .b => { f with b := v }
  | .c => { f with c := v }
  | .d => { f with d := v }
  | .e => { f with e := v }
  | .h => { f with h := v }
  | .l => { f with l := v }

/-- `xx[rr]` for BC, DE, HL and SP (R31, R105). -/
def RegFile.pair (f : RegFile) (p : Pair16) : Word :=
  match p with
  | .bc => joinBytes f.b f.c
  | .de => joinBytes f.d f.e
  | .hl => joinBytes f.h f.l
  | .sp => f.sp

/-- `xx[rr] <- v`: "writing a pair sets both halves" (R31, R105). -/
def RegFile.setPair (f : RegFile) (p : Pair16) (v : Word) : RegFile :=
  match p with
  | .bc => { f with b := highByte v, c := lowByte v }
  | .de => { f with d := highByte v, e := lowByte v }
  | .hl => { f with h := highByte v, l := lowByte v }
  | .sp => { f with sp := v }

/-- `xx[qq]` for BC, DE, HL and AF (R31, R106). -/
def RegFile.stackPair (f : RegFile) (q : StackPair) : Word :=
  match q with
  | .bc => joinBytes f.b f.c
  | .de => joinBytes f.d f.e
  | .hl => joinBytes f.h f.l
  | .af => joinBytes f.a f.flags.toByte

/-- `xx[qq] <- v` (R31, R106); writing AF keeps the low nibble of F at 0 (R35). -/
def RegFile.setStackPair (f : RegFile) (q : StackPair) (v : Word) : RegFile :=
  match q with
  | .bc => { f with b := highByte v, c := lowByte v }
  | .de => { f with d := highByte v, e := lowByte v }
  | .hl => { f with h := highByte v, l := lowByte v }
  | .af => { f with a := highByte v, flags := Flags.ofByte (lowByte v) }

/-- The pair that addresses memory for A (R205, R206). -/
def indPair : IndPair → Pair16
  | .bc => .bc
  | .de => .de

/-- `cond(cc)` (R107). -/
def Flags.cond (f : Flags) (cc : Cond) : Bool :=
  match cc with
  | .nz => !f.z
  | .z => f.z
  | .nc => !f.c
  | .c => f.c

/-! ### The same on a state -/

/-- The register `r`. -/
def State.reg (s : State) (r : Reg8) : Byte := s.regs.get r

/-- A pair or SP. -/
def State.pair (s : State) (p : Pair16) : Word := s.regs.pair p

/-- HL as an address. -/
def State.hl (s : State) : Word := s.regs.pair .hl

/-- SP. -/
def State.sp (s : State) : Word := s.regs.sp

/-- The condition `cc` on the flags. -/
def State.cond (s : State) (cc : Cond) : Bool := s.regs.flags.cond cc

/-- Write a register. -/
def State.setReg (s : State) (r : Reg8) (v : Byte) : State := { s with regs := s.regs.set r v }

/-- Write a pair or SP. -/
def State.setPair (s : State) (p : Pair16) (v : Word) : State := { s with regs := s.regs.setPair p v }

/-- Write BC, DE, HL or AF. -/
def State.setStackPair (s : State) (q : StackPair) (v : Word) : State :=
  { s with regs := s.regs.setStackPair q v }

/-- Write SP. -/
def State.setSp (s : State) (v : Word) : State := { s with regs := { s.regs with sp := v } }

/-- Write the four flags. -/
def State.setFlags (s : State) (f : Flags) : State := { s with regs := { s.regs with flags := f } }

/-- Write PC (`PC <- target`, R9). -/
def State.setPc (s : State) (v : Word) : State := { s with pc := v }

/-- Write a register and the flags: the result of an operation. -/
def State.setResult (s : State) (r : Reg8) (x : Byte × Flags) : State := (s.setReg r x.1).setFlags x.2

/-- The list of all register values, each as a number: what a predicate on the state can read (R7 `STOP_WAKE`). -/
def State.words (s : State) : List Nat :=
  [s.regs.a.toNat, s.regs.flags.toByte.toNat, s.regs.b.toNat, s.regs.c.toNat, s.regs.d.toNat, s.regs.e.toNat,
    s.regs.h.toNat, s.regs.l.toNat, s.regs.sp.toNat, s.pc.toNat, s.ime.toNat, s.ie.toNat, s.ifl.toNat,
    s.delay.toNat, s.halted.toNat, s.stopped.toNat, s.haltBug.toNat]

end Sys2Proof.Machine
end

