-- ==== Sys2Proof/Machine/Ops.lean ====
section
/-! DEFINITION. The shared operations: the bus port with the two addresses the block decodes itself
(spec/20_memory.md), the interrupt controller (spec/60_exceptions.md), the segments every instruction is made of
(spec/40_sequencer.md R150, R151), taking an interrupt and returning from one (R410 to R416), and the reset event
(spec/70_reset_and_hazards.md R451). -/

namespace Sys2Proof.Machine

/-! ### The fixed addresses (R41, R73, R78, R450) -/

/-- IF (R40, R73). -/
def ifAddr : Word := 0xFF0F

/-- IE (R39, R73). -/
def ieAddr : Word := 0xFFFF

/-- The bit index of a source (R402). -/
def IntSource.index : IntSource → Nat
  | .vblank => 0
  | .lcd => 1
  | .timer => 2
  | .serial => 3
  | .joypad => 4

/-- The vector of a source (R41): `0x0040 + 8 * i`. -/
def IntSource.vector (i : IntSource) : Word := BitVec.ofNat 16 (0x0040 + 8 * i.index)

/-! ### The interrupt controller -/

/-- `IE & IF & 0x1F` (R9 `pending`, R403). -/
def State.pending (s : State) : BitVec 5 := s.ie.setWidth 5 &&& s.ifl

/-- `priorityVector` (R411): the lowest set bit of the pending and enabled sources. -/
def priorityVector (m : BitVec 5) : Option IntSource :=
  if m.getLsbD 0 then some .vblank
  else if m.getLsbD 1 then some .lcd
  else if m.getLsbD 2 then some .timer
  else if m.getLsbD 3 then some .serial
  else if m.getLsbD 4 then some .joypad
  else none

/-- A read of IF (R40): bits 7 to 5 read 1. -/
def State.ifRead (s : State) : Byte := 0xE0 ||| s.ifl.setWidth 8

/-- A read of IE (R39): bits 7 to 5 read 0, or as stored where the parameter says so. -/
def State.ieRead (s : State) : Byte := if s.params.ieUpperStored then s.ie else s.ie &&& 0x1F

/-- What a write of IE stores (R39). -/
def State.ieStored (s : State) (v : Byte) : Byte := if s.params.ieUpperStored then v else v &&& 0x1F

/-! ### The bus port -/

/-- The handler accepts the address (R70). -/
def Region.accepts (r : Region) (a : Word) : Bool := decide (r.first ≤ a) && decide (a ≤ r.last)

/-- "first handler whose range accepts the address" (R70). -/
def State.handler (s : State) (a : Word) : Option RegionKind :=
  (s.busMap.find? (·.accepts a)).map (·.kind)

/-- A transaction that reaches the external bus: any address but the two the block decodes (R73). -/
def BusEvent.isExternal (e : BusEvent) : Bool := decide (e.addr ≠ ifAddr) && decide (e.addr ≠ ieAddr)

/-- What the collaborator answers to a read (R70): memory contents, a device's answer (a free value), and 0xFF where
no handler accepts the address. -/
def State.busAnswer (s : State) (a : Word) : Byte :=
  match s.handler a with
  | some .ram => Memory.get s.mem a.toNat
  | some .rom => Memory.get s.mem a.toNat
  | some .device => Config.busRead s.clock (s.busLog.filter BusEvent.isExternal) a
  | none => 0xFF

/-- The byte a read of `a` returns in this state (R72, R73). -/
def State.peek (s : State) (a : Word) : Byte :=
  if a = ifAddr then s.ifRead else if a = ieAddr then s.ieRead else s.busAnswer a

/-- The state after a read of `a` (R72): the transaction is recorded; IF and IE have no read side effect (R77). -/
def State.noteRead (s : State) (a : Word) : State :=
  { s with busLog := ⟨s.clock, .read, a, s.peek a⟩ :: s.busLog }

/-- Where a written byte goes (R70, R72, R73): IF, IE, memory, or nowhere. -/
def State.store (s : State) (a : Word) (v : Byte) : State :=
  if a = ifAddr then { s with ifl := v.setWidth 5 }
  else if a = ieAddr then { s with ie := s.ieStored v }
  else if s.handler a = some .ram then { s with mem := Memory.set s.mem a.toNat v }
  else s

/-- `MemWrite(a, 1, v)` (R9, R72). -/
def State.memWrite (s : State) (a : Word) (v : Byte) : State :=
  { s.store a v with busLog := ⟨s.clock, .write, a, v⟩ :: s.busLog }

/-- The byte kept at an address, read without a transaction: IF, IE or the collaborator's memory contents. -/
def State.content (s : State) (a : Word) : Byte :=
  if a = ifAddr then s.ifRead else if a = ieAddr then s.ieRead else Memory.get s.mem a.toNat

/-! ### The continuation and its locals (R46, R151) -/

/-- A new continuation (R46, R141), `k = 0`, every local without a value. -/
def Continuation.fresh (r : Routine) : Continuation := ⟨r, 0, none, none, none, none, none, none⟩

/-- Change the continuation, where there is one. -/
def State.onCont (s : State) (f : Continuation → Continuation) : State := { s with cont := s.cont.map f }

/-- `tmp <- v`. -/
def State.setTmp (s : State) (v : Byte) : State := s.onCont fun c => { c with tmp := some v }

/-- `lo <- v`. -/
def State.setLo (s : State) (v : Byte) : State := s.onCont fun c => { c with lo := some v }

/-- `hi <- v`. -/
def State.setHi (s : State) (v : Byte) : State := s.onCont fun c => { c with hi := some v }

/-- `cyclesLeft <- cyclesLeft + n` (R149, R152). -/
def State.addCycles (s : State) (n : Nat) : State := { s with cyclesLeft := s.cyclesLeft + n }

/-- R152: where the condition holds, the extra cycles are added. -/
def State.branchIf (s : State) (cc : Cond) (extra : Nat) : State := if s.cond cc then s.addCycles extra else s

/-! ### Segments -/

/-- A segment: the action of one M-cycle of a routine (R10, R150). -/
abbrev Seg := State → Host.Outcome State Fault Refusal

/-- Go on with a next state. -/
def andThen (o : Host.Outcome State Fault Refusal) (f : Seg) : Host.Outcome State Fault Refusal :=
  match o with
  | .next s => f s
  | .fault r => .fault r
  | .refused r => .refused r

/-- "none": no action in this M-cycle. -/
def idle : Seg := fun s => .next s

/-- An internal action: no bus access. -/
def act (f : State → State) : Seg := fun s => .next (f s)

/-- `v <- MemRead(addr, 1)` and an action with `v`; the address is taken from the state before. -/
def readInto (addr : State → Word) (f : Byte → State → State) : Seg :=
  fun s => .next (f (s.peek (addr s)) (s.noteRead (addr s)))

/-- `v <- fetch8()` (R9) and an action with `v`: the byte at PC is read and PC is incremented. -/
def fetchInto (f : Byte → State → State) : Seg :=
  fun s => .next (f (s.peek s.pc) ((s.noteRead s.pc).setPc (s.pc + 1)))

/-- `MemWrite(addr, 1, v)` and then an internal action; address and byte are taken from the state before. -/
def writeThen (addr : State → Word) (v : State → Byte) (f : State → State) : Seg :=
  fun s => .next (f (s.memWrite (addr s) (v s)))

/-- A segment that reads the local `tmp`. -/
def withTmp (f : Byte → Seg) : Seg := fun s =>
  match s.cont.bind (·.tmp) with
  | some v => f v s
  | none => .fault .localUnset

/-- A segment that reads the local `lo`. -/
def withLo (f : Byte → Seg) : Seg := fun s =>
  match s.cont.bind (·.lo) with
  | some v => f v s
  | none => .fault .localUnset

/-- A segment that reads the local `hi`. -/
def withHi (f : Byte → Seg) : Seg := fun s =>
  match s.cont.bind (·.hi) with
  | some v => f v s
  | none => .fault .localUnset

/-- A segment that reads `(hi << 8) | lo`. -/
def withAddr (f : Word → Seg) : Seg := withHi fun hi => withLo fun lo => f (joinBytes hi lo)

/-- A segment that reads `op` and `opAddr`. -/
def withOpcode (f : Byte → Word → Seg) : Seg := fun s =>
  match s.cont.bind (·.op), s.cont.bind (·.opAddr) with
  | some op, some a => f op a s
  | _, _ => .fault .localUnset

/-- Run the segment of a schedule that the continuation stands at (R150): `M(k+1)` is the entry `k`. -/
def perform (schedule : List Seg) : Seg := fun s =>
  match s.cont with
  | none => .fault .noContinuation
  | some c =>
    match schedule[c.k]? with
    | some seg => seg s
    | none => .fault .segmentOverrun

/-! ### Segments that several families share -/

/-- `lo <- fetch8()`. -/
def fetchLo : Seg := fetchInto fun v s => s.setLo v

/-- `hi <- fetch8()`. -/
def fetchHi : Seg := fetchInto fun v s => s.setHi v

/-- `tmp <- fetch8()`. -/
def fetchTmp : Seg := fetchInto fun v s => s.setTmp v

/-- `tmp <- MemRead(HL, 1)`. -/
def readHlTmp : Seg := readInto State.hl fun v s => s.setTmp v

/-- `SP <- u16(SP - 1)`, internal. -/
def decSp : Seg := act fun s => s.setSp (s.sp - 1)

/-- `MemWrite(SP, 1, v[15:8]); SP <- u16(SP - 1)` (R236, R355). -/
def pushHigh (v : State → Word) : Seg := writeThen State.sp (fun s => highByte (v s)) fun s => s.setSp (s.sp - 1)

/-- `MemWrite(SP, 1, v[7:0])` and then an internal action. -/
def pushLow (v : State → Word) (f : State → State) : Seg := writeThen State.sp (fun s => lowByte (v s)) f

/-- `lo <- MemRead(SP, 1); SP <- u16(SP + 1)` (R237, R360). -/
def popLo : Seg := readInto State.sp fun v s => (s.setLo v).setSp (s.sp + 1)

/-- `hi <- MemRead(SP, 1); SP <- u16(SP + 1)`. -/
def popHi : Seg := readInto State.sp fun v s => (s.setHi v).setSp (s.sp + 1)

/-- `PC <- (hi << 8) | lo`, internal. -/
def jumpAddr : Seg := withAddr fun a => act fun s => s.setPc a

/-- `PC <- u16(PC + sext(tmp))`, internal (R353). -/
def jumpRel : Seg := withTmp fun v => act fun s => s.setPc (s.pc + sext16 v)

/-! ### Taking an interrupt (R144, R410 to R413) -/

/-- Start the acceptance sequence (R144). -/
def State.beginInterrupt (s : State) : State :=
  { s with
    cont := some (Continuation.fresh .isr)
    pendingVector := priorityVector s.pending
    cyclesLeft := 5 }

/-- M3 of the sequence (R410): the push of PC's high byte; where its address is 0xFFFF the pending vector is computed
again from the new IE (R412). -/
def State.isrPushHigh (s : State) : State :=
  let t := s.setSp (s.sp - 1)
  let u := t.memWrite t.sp (highByte t.pc)
  if t.sp = ieAddr then { u with pendingVector := priorityVector u.pending } else u

/-- M4 of the sequence (R410): the push of PC's low byte. -/
def State.isrPushLow (s : State) : State :=
  let t := s.setSp (s.sp - 1)
  t.memWrite t.sp (lowByte t.pc)

/-- M5 of the sequence (R410, R413): PC to the vector and the IF bit cleared, or PC to 0x0000 where no vector is left. -/
def State.isrJump (s : State) : State :=
  match s.pendingVector with
  | some i => { s with pc := i.vector, ifl := s.ifl &&& ~~~((1 : BitVec 5) <<< i.index) }
  | none => { s with pc := 0x0000 }

/-- The interrupt-acceptance sequence (R410). -/
def acceptInterrupt : Seg := perform
  [act fun s => { s with ime := false },
    idle,
    act State.isrPushHigh,
    act State.isrPushLow,
    act State.isrJump]

/-! ### Returning (R360, R363, R416) -/

/-- RET (R360): the return address is popped into PC. -/
def returnFrom : Seg := perform [idle, popLo, popHi, jumpAddr]

/-- The return from an interrupt (R363, R416): as RET, and IME is set with no delay. -/
def returnFromInterrupt : Seg := perform
  [idle, popLo, popHi, withAddr fun a => act fun s => { s.setPc a with ime := true }]

/-! ### Wake-up and reset -/

/-- `STOP_WAKE` (R7, R142). -/
def State.stopWakes (s : State) : Bool :=
  match s.params.stopWake with
  | .ifMask m => decide (s.ifl &&& m ≠ 0)
  | .unspecified => Config.stopWake s.words

/-- The reset event (R451): the whole block takes its reset state, the registers from `RESET_REGS`; nothing outside the
block changes and no bus access is made. PC is the 0x0000 of R451 on a platform started in the post-boot profile too:
DESIGN CHOICE (notes/assumptions/15.md). -/
def State.resetBlock (s : State) : State :=
  { s with
    regs := s.params.resetRegs
    pc := 0x0000
    ime := false
    ie := 0x00
    ifl := 0x01
    delay := false
    halted := false
    stopped := false
    haltBug := false
    cyclesLeft := 0
    pendingVector := none
    cont := none
    diagLog := [] }

end Sys2Proof.Machine
end

