-- ==== Sys2Proof/Machine/Alu16.lean ====
section
/-! DEFINITION. The 16-bit arithmetic (spec/44_alu16.md R280 to R284). First the shared operations, one per
rule, each the schedule the rule gives (M1, M2, …); then one definition per instruction. -/

namespace Sys2Proof.Machine

/-- R280 `ADD HL,ss`. -/
def addHl (p : Pair16) : Seg := perform
  [idle, act fun s =>
    (s.setPair .hl (add16 s.hl (s.pair p) s.regs.flags).1).setFlags (add16 s.hl (s.pair p) s.regs.flags).2]

/-- R281 `INC ss`. -/
def incPair (p : Pair16) : Seg := perform [idle, act fun s => s.setPair p (s.pair p + 1)]

/-- R282 `DEC ss`. -/
def decPair (p : Pair16) : Seg := perform [idle, act fun s => s.setPair p (s.pair p - 1)]

/-- R283 `ADD SP,e8`. -/
def addSp : Seg := perform
  [idle, fetchTmp, idle,
    withTmp fun e => act fun s => (s.setSp (addSigned s.sp e).1).setFlags (addSigned s.sp e).2]

/-- R284 `LD HL,SP+e8`. -/
def ldHlSp : Seg := perform
  [idle, fetchTmp,
    withTmp fun e => act fun s => (s.setPair .hl (addSigned s.sp e).1).setFlags (addSigned s.sp e).2]

/-! ### The instructions -/

/-- R281 `INC BC` (0x03). -/
def execIncBc (s : State) : Host.Outcome State Fault Refusal := incPair .bc s
/-- R280 `ADD HL,BC` (0x09). -/
def execAddHlBc (s : State) : Host.Outcome State Fault Refusal := addHl .bc s
/-- R282 `DEC BC` (0x0B). -/
def execDecBc (s : State) : Host.Outcome State Fault Refusal := decPair .bc s
/-- R281 `INC DE` (0x13). -/
def execIncDe (s : State) : Host.Outcome State Fault Refusal := incPair .de s
/-- R280 `ADD HL,DE` (0x19). -/
def execAddHlDe (s : State) : Host.Outcome State Fault Refusal := addHl .de s
/-- R282 `DEC DE` (0x1B). -/
def execDecDe (s : State) : Host.Outcome State Fault Refusal := decPair .de s
/-- R281 `INC HL` (0x23). -/
def execIncHl (s : State) : Host.Outcome State Fault Refusal := incPair .hl s
/-- R280 `ADD HL,HL` (0x29). -/
def execAddHlHl (s : State) : Host.Outcome State Fault Refusal := addHl .hl s
/-- R282 `DEC HL` (0x2B). -/
def execDecHl (s : State) : Host.Outcome State Fault Refusal := decPair .hl s
/-- R281 `INC SP` (0x33). -/
def execIncSp (s : State) : Host.Outcome State Fault Refusal := incPair .sp s
/-- R280 `ADD HL,SP` (0x39). -/
def execAddHlSp (s : State) : Host.Outcome State Fault Refusal := addHl .sp s
/-- R282 `DEC SP` (0x3B). -/
def execDecSp (s : State) : Host.Outcome State Fault Refusal := decPair .sp s
/-- R283 `ADD SP,e8` (0xE8). -/
def execAddSpE8 (s : State) : Host.Outcome State Fault Refusal := addSp s
/-- R284 `LD HL,SP+e8` (0xF8). -/
def execLdHlSpE8 (s : State) : Host.Outcome State Fault Refusal := ldHlSp s

end Sys2Proof.Machine
end

