-- ==== Sys2Proof/Machine/Alu8.lean ====
section
/-! DEFINITION. The 8-bit arithmetic and logic (spec/43_alu8.md R246 to R265). First the shared operations, one per
rule, each the schedule the rule gives (M1, M2, …); then one definition per instruction. -/

namespace Sys2Proof.Machine

/-- "operate" on A with an operand value (R246). -/
def State.operate (s : State) (op : AluOp) (v : Byte) : State := s.setResult .a (alu op s.regs.a v s.regs.flags)

/-- R246, form `r`. -/
def aluReg (op : AluOp) (r : Reg8) : Seg := perform [act fun s => s.operate op (s.reg r)]

/-- R246, form `(HL)`. -/
def aluHl (op : AluOp) : Seg := perform [idle, readInto State.hl fun v s => s.operate op v]

/-- R246, form `n8`. -/
def aluImm (op : AluOp) : Seg := perform [idle, fetchInto fun v s => s.operate op v]

/-- M3 of a read-modify-write on `(HL)` (R259, R261, R320): operate on `tmp`, write the result, set the flags. -/
def modifyHl (f : Byte → Flags → Byte × Flags) : Seg := withTmp fun v s =>
  .next ((s.memWrite s.hl (f v s.regs.flags).1).setFlags (f v s.regs.flags).2)

/-- R258 `INC r`. -/
def incReg (r : Reg8) : Seg := perform [act fun s => s.setResult r (inc8 (s.reg r) s.regs.flags)]

/-- R259 `INC (HL)`. -/
def incHl : Seg := perform [idle, readHlTmp, modifyHl inc8]

/-- R260 `DEC r`. -/
def decReg (r : Reg8) : Seg := perform [act fun s => s.setResult r (dec8 (s.reg r) s.regs.flags)]

/-- R261 `DEC (HL)`. -/
def decHl : Seg := perform [idle, readHlTmp, modifyHl dec8]

/-- R262 `DAA`. -/
def daa : Seg := perform [act fun s => s.setResult .a (daa8 s.regs.a s.regs.flags)]

/-- R263 `CPL`. -/
def cpl : Seg := perform
  [act fun s => s.setResult .a (s.regs.a ^^^ 0xFF, { s.regs.flags with n := true, h := true })]

/-- R264 `SCF`. -/
def scf : Seg := perform [act fun s => s.setFlags ⟨s.regs.flags.z, false, false, true⟩]

/-- R265 `CCF`. -/
def ccf : Seg := perform [act fun s => s.setFlags ⟨s.regs.flags.z, false, false, !s.regs.flags.c⟩]

/-! ### The instructions -/

/-- R258 `INC B` (0x04). -/
def execIncB (s : State) : Host.Outcome State Fault Refusal := incReg .b s
/-- R260 `DEC B` (0x05). -/
def execDecB (s : State) : Host.Outcome State Fault Refusal := decReg .b s
/-- R258 `INC C` (0x0C). -/
def execIncC (s : State) : Host.Outcome State Fault Refusal := incReg .c s
/-- R260 `DEC C` (0x0D). -/
def execDecC (s : State) : Host.Outcome State Fault Refusal := decReg .c s
/-- R258 `INC D` (0x14). -/
def execIncD (s : State) : Host.Outcome State Fault Refusal := incReg .d s
/-- R260 `DEC D` (0x15). -/
def execDecD (s : State) : Host.Outcome State Fault Refusal := decReg .d s
/-- R258 `INC E` (0x1C). -/
def execIncE (s : State) : Host.Outcome State Fault Refusal := incReg .e s
/-- R260 `DEC E` (0x1D). -/
def execDecE (s : State) : Host.Outcome State Fault Refusal := decReg .e s
/-- R258 `INC H` (0x24). -/
def execIncH (s : State) : Host.Outcome State Fault Refusal := incReg .h s
/-- R260 `DEC H` (0x25). -/
def execDecH (s : State) : Host.Outcome State Fault Refusal := decReg .h s
/-- R262 `DAA` (0x27). -/
def execDaa (s : State) : Host.Outcome State Fault Refusal := daa s
/-- R258 `INC L` (0x2C). -/
def execIncL (s : State) : Host.Outcome State Fault Refusal := incReg .l s
/-- R260 `DEC L` (0x2D). -/
def execDecL (s : State) : Host.Outcome State Fault Refusal := decReg .l s
/-- R263 `CPL` (0x2F). -/
def execCpl (s : State) : Host.Outcome State Fault Refusal := cpl s
/-- R259 `INC (HL)` (0x34). -/
def execIncAtHl (s : State) : Host.Outcome State Fault Refusal := incHl s
/-- R261 `DEC (HL)` (0x35). -/
def execDecAtHl (s : State) : Host.Outcome State Fault Refusal := decHl s
/-- R264 `SCF` (0x37). -/
def execScf (s : State) : Host.Outcome State Fault Refusal := scf s
/-- R258 `INC A` (0x3C). -/
def execIncA (s : State) : Host.Outcome State Fault Refusal := incReg .a s
/-- R260 `DEC A` (0x3D). -/
def execDecA (s : State) : Host.Outcome State Fault Refusal := decReg .a s
/-- R265 `CCF` (0x3F). -/
def execCcf (s : State) : Host.Outcome State Fault Refusal := ccf s
/-- R250 `ADD A,B` (0x80). -/
def execAddAB (s : State) : Host.Outcome State Fault Refusal := aluReg .add .b s
/-- R250 `ADD A,C` (0x81). -/
def execAddAC (s : State) : Host.Outcome State Fault Refusal := aluReg .add .c s
/-- R250 `ADD A,D` (0x82). -/
def execAddAD (s : State) : Host.Outcome State Fault Refusal := aluReg .add .d s
/-- R250 `ADD A,E` (0x83). -/
def execAddAE (s : State) : Host.Outcome State Fault Refusal := aluReg .add .e s
/-- R250 `ADD A,H` (0x84). -/
def execAddAH (s : State) : Host.Outcome State Fault Refusal := aluReg .add .h s
/-- R250 `ADD A,L` (0x85). -/
def execAddAL (s : State) : Host.Outcome State Fault Refusal := aluReg .add .l s
/-- R250 `ADD A,(HL)` (0x86). -/
def execAddAAtHl (s : State) : Host.Outcome State Fault Refusal := aluHl .add s
/-- R250 `ADD A,A` (0x87). -/
def execAddAA (s : State) : Host.Outcome State Fault Refusal := aluReg .add .a s
/-- R251 `ADC A,B` (0x88). -/
def execAdcAB (s : State) : Host.Outcome State Fault Refusal := aluReg .adc .b s
/-- R251 `ADC A,C` (0x89). -/
def execAdcAC (s : State) : Host.Outcome State Fault Refusal := aluReg .adc .c s
/-- R251 `ADC A,D` (0x8A). -/
def execAdcAD (s : State) : Host.Outcome State Fault Refusal := aluReg .adc .d s
/-- R251 `ADC A,E` (0x8B). -/
def execAdcAE (s : State) : Host.Outcome State Fault Refusal := aluReg .adc .e s
/-- R251 `ADC A,H` (0x8C). -/
def execAdcAH (s : State) : Host.Outcome State Fault Refusal := aluReg .adc .h s
/-- R251 `ADC A,L` (0x8D). -/
def execAdcAL (s : State) : Host.Outcome State Fault Refusal := aluReg .adc .l s
/-- R251 `ADC A,(HL)` (0x8E). -/
def execAdcAAtHl (s : State) : Host.Outcome State Fault Refusal := aluHl .adc s
/-- R251 `ADC A,A` (0x8F). -/
def execAdcAA (s : State) : Host.Outcome State Fault Refusal := aluReg .adc .a s
/-- R252 `SUB B` (0x90). -/
def execSubB (s : State) : Host.Outcome State Fault Refusal := aluReg .sub .b s
/-- R252 `SUB C` (0x91). -/
def execSubC (s : State) : Host.Outcome State Fault Refusal := aluReg .sub .c s
/-- R252 `SUB D` (0x92). -/
def execSubD (s : State) : Host.Outcome State Fault Refusal := aluReg .sub .d s
/-- R252 `SUB E` (0x93). -/
def execSubE (s : State) : Host.Outcome State Fault Refusal := aluReg .sub .e s
/-- R252 `SUB H` (0x94). -/
def execSubH (s : State) : Host.Outcome State Fault Refusal := aluReg .sub .h s
/-- R252 `SUB L` (0x95). -/
def execSubL (s : State) : Host.Outcome State Fault Refusal := aluReg .sub .l s
/-- R252 `SUB (HL)` (0x96). -/
def execSubAtHl (s : State) : Host.Outcome State Fault Refusal := aluHl .sub s
/-- R252 `SUB A` (0x97). -/
def execSubA (s : State) : Host.Outcome State Fault Refusal := aluReg .sub .a s
/-- R253 `SBC A,B` (0x98). -/
def execSbcAB (s : State) : Host.Outcome State Fault Refusal := aluReg .sbc .b s
/-- R253 `SBC A,C` (0x99). -/
def execSbcAC (s : State) : Host.Outcome State Fault Refusal := aluReg .sbc .c s
/-- R253 `SBC A,D` (0x9A). -/
def execSbcAD (s : State) : Host.Outcome State Fault Refusal := aluReg .sbc .d s
/-- R253 `SBC A,E` (0x9B). -/
def execSbcAE (s : State) : Host.Outcome State Fault Refusal := aluReg .sbc .e s
/-- R253 `SBC A,H` (0x9C). -/
def execSbcAH (s : State) : Host.Outcome State Fault Refusal := aluReg .sbc .h s
/-- R253 `SBC A,L` (0x9D). -/
def execSbcAL (s : State) : Host.Outcome State Fault Refusal := aluReg .sbc .l s
/-- R253 `SBC A,(HL)` (0x9E). -/
def execSbcAAtHl (s : State) : Host.Outcome State Fault Refusal := aluHl .sbc s
/-- R253 `SBC A,A` (0x9F). -/
def execSbcAA (s : State) : Host.Outcome State Fault Refusal := aluReg .sbc .a s
/-- R254 `AND B` (0xA0). -/
def execAndB (s : State) : Host.Outcome State Fault Refusal := aluReg .and .b s
/-- R254 `AND C` (0xA1). -/
def execAndC (s : State) : Host.Outcome State Fault Refusal := aluReg .and .c s
/-- R254 `AND D` (0xA2). -/
def execAndD (s : State) : Host.Outcome State Fault Refusal := aluReg .and .d s
/-- R254 `AND E` (0xA3). -/
def execAndE (s : State) : Host.Outcome State Fault Refusal := aluReg .and .e s
/-- R254 `AND H` (0xA4). -/
def execAndH (s : State) : Host.Outcome State Fault Refusal := aluReg .and .h s
/-- R254 `AND L` (0xA5). -/
def execAndL (s : State) : Host.Outcome State Fault Refusal := aluReg .and .l s
/-- R254 `AND (HL)` (0xA6). -/
def execAndAtHl (s : State) : Host.Outcome State Fault Refusal := aluHl .and s
/-- R254 `AND A` (0xA7). -/
def execAndA (s : State) : Host.Outcome State Fault Refusal := aluReg .and .a s
/-- R255 `XOR B` (0xA8). -/
def execXorB (s : State) : Host.Outcome State Fault Refusal := aluReg .xor .b s
/-- R255 `XOR C` (0xA9). -/
def execXorC (s : State) : Host.Outcome State Fault Refusal := aluReg .xor .c s
/-- R255 `XOR D` (0xAA). -/
def execXorD (s : State) : Host.Outcome State Fault Refusal := aluReg .xor .d s
/-- R255 `XOR E` (0xAB). -/
def execXorE (s : State) : Host.Outcome State Fault Refusal := aluReg .xor .e s
/-- R255 `XOR H` (0xAC). -/
def execXorH (s : State) : Host.Outcome State Fault Refusal := aluReg .xor .h s
/-- R255 `XOR L` (0xAD). -/
def execXorL (s : State) : Host.Outcome State Fault Refusal := aluReg .xor .l s
/-- R255 `XOR (HL)` (0xAE). -/
def execXorAtHl (s : State) : Host.Outcome State Fault Refusal := aluHl .xor s
/-- R255 `XOR A` (0xAF). -/
def execXorA (s : State) : Host.Outcome State Fault Refusal := aluReg .xor .a s
/-- R256 `OR B` (0xB0). -/
def execOrB (s : State) : Host.Outcome State Fault Refusal := aluReg .or .b s
/-- R256 `OR C` (0xB1). -/
def execOrC (s : State) : Host.Outcome State Fault Refusal := aluReg .or .c s
/-- R256 `OR D` (0xB2). -/
def execOrD (s : State) : Host.Outcome State Fault Refusal := aluReg .or .d s
/-- R256 `OR E` (0xB3). -/
def execOrE (s : State) : Host.Outcome State Fault Refusal := aluReg .or .e s
/-- R256 `OR H` (0xB4). -/
def execOrH (s : State) : Host.Outcome State Fault Refusal := aluReg .or .h s
/-- R256 `OR L` (0xB5). -/
def execOrL (s : State) : Host.Outcome State Fault Refusal := aluReg .or .l s
/-- R256 `OR (HL)` (0xB6). -/
def execOrAtHl (s : State) : Host.Outcome State Fault Refusal := aluHl .or s
/-- R256 `OR A` (0xB7). -/
def execOrA (s : State) : Host.Outcome State Fault Refusal := aluReg .or .a s
/-- R257 `CP B` (0xB8). -/
def execCpB (s : State) : Host.Outcome State Fault Refusal := aluReg .cp .b s
/-- R257 `CP C` (0xB9). -/
def execCpC (s : State) : Host.Outcome State Fault Refusal := aluReg .cp .c s
/-- R257 `CP D` (0xBA). -/
def execCpD (s : State) : Host.Outcome State Fault Refusal := aluReg .cp .d s
/-- R257 `CP E` (0xBB). -/
def execCpE (s : State) : Host.Outcome State Fault Refusal := aluReg .cp .e s
/-- R257 `CP H` (0xBC). -/
def execCpH (s : State) : Host.Outcome State Fault Refusal := aluReg .cp .h s
/-- R257 `CP L` (0xBD). -/
def execCpL (s : State) : Host.Outcome State Fault Refusal := aluReg .cp .l s
/-- R257 `CP (HL)` (0xBE). -/
def execCpAtHl (s : State) : Host.Outcome State Fault Refusal := aluHl .cp s
/-- R257 `CP A` (0xBF). -/
def execCpA (s : State) : Host.Outcome State Fault Refusal := aluReg .cp .a s
/-- R250 `ADD A,n8` (0xC6). -/
def execAddAN8 (s : State) : Host.Outcome State Fault Refusal := aluImm .add s
/-- R251 `ADC A,n8` (0xCE). -/
def execAdcAN8 (s : State) : Host.Outcome State Fault Refusal := aluImm .adc s
/-- R252 `SUB n8` (0xD6). -/
def execSubN8 (s : State) : Host.Outcome State Fault Refusal := aluImm .sub s
/-- R253 `SBC A,n8` (0xDE). -/
def execSbcAN8 (s : State) : Host.Outcome State Fault Refusal := aluImm .sbc s
/-- R254 `AND n8` (0xE6). -/
def execAndN8 (s : State) : Host.Outcome State Fault Refusal := aluImm .and s
/-- R255 `XOR n8` (0xEE). -/
def execXorN8 (s : State) : Host.Outcome State Fault Refusal := aluImm .xor s
/-- R256 `OR n8` (0xF6). -/
def execOrN8 (s : State) : Host.Outcome State Fault Refusal := aluImm .or s
/-- R257 `CP n8` (0xFE). -/
def execCpN8 (s : State) : Host.Outcome State Fault Refusal := aluImm .cp s

end Sys2Proof.Machine
end

