-- ==== Sys2Proof/Machine/Bit.lean ====
section
/-! DEFINITION. BIT, RES and SET (spec/46_bit.md R330 to R335), with the schedules of R320. First the shared operations, one per
rule, each the schedule the rule gives (M1, M2, …); then one definition per instruction. -/

namespace Sys2Proof.Machine

/-- R330 `BIT b,r`. -/
def bitReg (b : Oct) (r : Reg8) : Seg := perform
  [idle, act fun s => s.setFlags (bitFlags b.toNat (s.reg r) s.regs.flags)]

/-- R331 `BIT b,(HL)`. -/
def bitHl (b : Oct) : Seg := perform
  [idle, idle, readInto State.hl fun v s => (s.setTmp v).setFlags (bitFlags b.toNat v s.regs.flags)]

/-- R332 `RES b,r`. -/
def resReg (b : Oct) (r : Reg8) : Seg := perform [idle, act fun s => s.setReg r (clearBit b.toNat (s.reg r))]

/-- R333 `RES b,(HL)`. -/
def resHl (b : Oct) : Seg := perform
  [idle, idle, readHlTmp, withTmp fun v => writeThen State.hl (fun _ => clearBit b.toNat v) id]

/-- R334 `SET b,r`. -/
def setReg (b : Oct) (r : Reg8) : Seg := perform [idle, act fun s => s.setReg r (assertBit b.toNat (s.reg r))]

/-- R335 `SET b,(HL)`. -/
def setHl (b : Oct) : Seg := perform
  [idle, idle, readHlTmp, withTmp fun v => writeThen State.hl (fun _ => assertBit b.toNat v) id]

/-! ### The instructions -/

/-- R330 `BIT 0,B` (CB 40). -/
def execBit0B (s : State) : Host.Outcome State Fault Refusal := bitReg .o0 .b s
/-- R330 `BIT 0,C` (CB 41). -/
def execBit0C (s : State) : Host.Outcome State Fault Refusal := bitReg .o0 .c s
/-- R330 `BIT 0,D` (CB 42). -/
def execBit0D (s : State) : Host.Outcome State Fault Refusal := bitReg .o0 .d s
/-- R330 `BIT 0,E` (CB 43). -/
def execBit0E (s : State) : Host.Outcome State Fault Refusal := bitReg .o0 .e s
/-- R330 `BIT 0,H` (CB 44). -/
def execBit0H (s : State) : Host.Outcome State Fault Refusal := bitReg .o0 .h s
/-- R330 `BIT 0,L` (CB 45). -/
def execBit0L (s : State) : Host.Outcome State Fault Refusal := bitReg .o0 .l s
/-- R331 `BIT 0,(HL)` (CB 46). -/
def execBit0AtHl (s : State) : Host.Outcome State Fault Refusal := bitHl .o0 s
/-- R330 `BIT 0,A` (CB 47). -/
def execBit0A (s : State) : Host.Outcome State Fault Refusal := bitReg .o0 .a s
/-- R330 `BIT 1,B` (CB 48). -/
def execBit1B (s : State) : Host.Outcome State Fault Refusal := bitReg .o1 .b s
/-- R330 `BIT 1,C` (CB 49). -/
def execBit1C (s : State) : Host.Outcome State Fault Refusal := bitReg .o1 .c s
/-- R330 `BIT 1,D` (CB 4A). -/
def execBit1D (s : State) : Host.Outcome State Fault Refusal := bitReg .o1 .d s
/-- R330 `BIT 1,E` (CB 4B). -/
def execBit1E (s : State) : Host.Outcome State Fault Refusal := bitReg .o1 .e s
/-- R330 `BIT 1,H` (CB 4C). -/
def execBit1H (s : State) : Host.Outcome State Fault Refusal := bitReg .o1 .h s
/-- R330 `BIT 1,L` (CB 4D). -/
def execBit1L (s : State) : Host.Outcome State Fault Refusal := bitReg .o1 .l s
/-- R331 `BIT 1,(HL)` (CB 4E). -/
def execBit1AtHl (s : State) : Host.Outcome State Fault Refusal := bitHl .o1 s
/-- R330 `BIT 1,A` (CB 4F). -/
def execBit1A (s : State) : Host.Outcome State Fault Refusal := bitReg .o1 .a s
/-- R330 `BIT 2,B` (CB 50). -/
def execBit2B (s : State) : Host.Outcome State Fault Refusal := bitReg .o2 .b s
/-- R330 `BIT 2,C` (CB 51). -/
def execBit2C (s : State) : Host.Outcome State Fault Refusal := bitReg .o2 .c s
/-- R330 `BIT 2,D` (CB 52). -/
def execBit2D (s : State) : Host.Outcome State Fault Refusal := bitReg .o2 .d s
/-- R330 `BIT 2,E` (CB 53). -/
def execBit2E (s : State) : Host.Outcome State Fault Refusal := bitReg .o2 .e s
/-- R330 `BIT 2,H` (CB 54). -/
def execBit2H (s : State) : Host.Outcome State Fault Refusal := bitReg .o2 .h s
/-- R330 `BIT 2,L` (CB 55). -/
def execBit2L (s : State) : Host.Outcome State Fault Refusal := bitReg .o2 .l s
/-- R331 `BIT 2,(HL)` (CB 56). -/
def execBit2AtHl (s : State) : Host.Outcome State Fault Refusal := bitHl .o2 s
/-- R330 `BIT 2,A` (CB 57). -/
def execBit2A (s : State) : Host.Outcome State Fault Refusal := bitReg .o2 .a s
/-- R330 `BIT 3,B` (CB 58). -/
def execBit3B (s : State) : Host.Outcome State Fault Refusal := bitReg .o3 .b s
/-- R330 `BIT 3,C` (CB 59). -/
def execBit3C (s : State) : Host.Outcome State Fault Refusal := bitReg .o3 .c s
/-- R330 `BIT 3,D` (CB 5A). -/
def execBit3D (s : State) : Host.Outcome State Fault Refusal := bitReg .o3 .d s
/-- R330 `BIT 3,E` (CB 5B). -/
def execBit3E (s : State) : Host.Outcome State Fault Refusal := bitReg .o3 .e s
/-- R330 `BIT 3,H` (CB 5C). -/
def execBit3H (s : State) : Host.Outcome State Fault Refusal := bitReg .o3 .h s
/-- R330 `BIT 3,L` (CB 5D). -/
def execBit3L (s : State) : Host.Outcome State Fault Refusal := bitReg .o3 .l s
/-- R331 `BIT 3,(HL)` (CB 5E). -/
def execBit3AtHl (s : State) : Host.Outcome State Fault Refusal := bitHl .o3 s
/-- R330 `BIT 3,A` (CB 5F). -/
def execBit3A (s : State) : Host.Outcome State Fault Refusal := bitReg .o3 .a s
/-- R330 `BIT 4,B` (CB 60). -/
def execBit4B (s : State) : Host.Outcome State Fault Refusal := bitReg .o4 .b s
/-- R330 `BIT 4,C` (CB 61). -/
def execBit4C (s : State) : Host.Outcome State Fault Refusal := bitReg .o4 .c s
/-- R330 `BIT 4,D` (CB 62). -/
def execBit4D (s : State) : Host.Outcome State Fault Refusal := bitReg .o4 .d s
/-- R330 `BIT 4,E` (CB 63). -/
def execBit4E (s : State) : Host.Outcome State Fault Refusal := bitReg .o4 .e s
/-- R330 `BIT 4,H` (CB 64). -/
def execBit4H (s : State) : Host.Outcome State Fault Refusal := bitReg .o4 .h s
/-- R330 `BIT 4,L` (CB 65). -/
def execBit4L (s : State) : Host.Outcome State Fault Refusal := bitReg .o4 .l s
/-- R331 `BIT 4,(HL)` (CB 66). -/
def execBit4AtHl (s : State) : Host.Outcome State Fault Refusal := bitHl .o4 s
/-- R330 `BIT 4,A` (CB 67). -/
def execBit4A (s : State) : Host.Outcome State Fault Refusal := bitReg .o4 .a s
/-- R330 `BIT 5,B` (CB 68). -/
def execBit5B (s : State) : Host.Outcome State Fault Refusal := bitReg .o5 .b s
/-- R330 `BIT 5,C` (CB 69). -/
def execBit5C (s : State) : Host.Outcome State Fault Refusal := bitReg .o5 .c s
/-- R330 `BIT 5,D` (CB 6A). -/
def execBit5D (s : State) : Host.Outcome State Fault Refusal := bitReg .o5 .d s
/-- R330 `BIT 5,E` (CB 6B). -/
def execBit5E (s : State) : Host.Outcome State Fault Refusal := bitReg .o5 .e s
/-- R330 `BIT 5,H` (CB 6C). -/
def execBit5H (s : State) : Host.Outcome State Fault Refusal := bitReg .o5 .h s
/-- R330 `BIT 5,L` (CB 6D). -/
def execBit5L (s : State) : Host.Outcome State Fault Refusal := bitReg .o5 .l s
/-- R331 `BIT 5,(HL)` (CB 6E). -/
def execBit5AtHl (s : State) : Host.Outcome State Fault Refusal := bitHl .o5 s
/-- R330 `BIT 5,A` (CB 6F). -/
def execBit5A (s : State) : Host.Outcome State Fault Refusal := bitReg .o5 .a s
/-- R330 `BIT 6,B` (CB 70). -/
def execBit6B (s : State) : Host.Outcome State Fault Refusal := bitReg .o6 .b s
/-- R330 `BIT 6,C` (CB 71). -/
def execBit6C (s : State) : Host.Outcome State Fault Refusal := bitReg .o6 .c s
/-- R330 `BIT 6,D` (CB 72). -/
def execBit6D (s : State) : Host.Outcome State Fault Refusal := bitReg .o6 .d s
/-- R330 `BIT 6,E` (CB 73). -/
def execBit6E (s : State) : Host.Outcome State Fault Refusal := bitReg .o6 .e s
/-- R330 `BIT 6,H` (CB 74). -/
def execBit6H (s : State) : Host.Outcome State Fault Refusal := bitReg .o6 .h s
/-- R330 `BIT 6,L` (CB 75). -/
def execBit6L (s : State) : Host.Outcome State Fault Refusal := bitReg .o6 .l s
/-- R331 `BIT 6,(HL)` (CB 76). -/
def execBit6AtHl (s : State) : Host.Outcome State Fault Refusal := bitHl .o6 s
/-- R330 `BIT 6,A` (CB 77). -/
def execBit6A (s : State) : Host.Outcome State Fault Refusal := bitReg .o6 .a s
/-- R330 `BIT 7,B` (CB 78). -/
def execBit7B (s : State) : Host.Outcome State Fault Refusal := bitReg .o7 .b s
/-- R330 `BIT 7,C` (CB 79). -/
def execBit7C (s : State) : Host.Outcome State Fault Refusal := bitReg .o7 .c s
/-- R330 `BIT 7,D` (CB 7A). -/
def execBit7D (s : State) : Host.Outcome State Fault Refusal := bitReg .o7 .d s
/-- R330 `BIT 7,E` (CB 7B). -/
def execBit7E (s : State) : Host.Outcome State Fault Refusal := bitReg .o7 .e s
/-- R330 `BIT 7,H` (CB 7C). -/
def execBit7H (s : State) : Host.Outcome State Fault Refusal := bitReg .o7 .h s
/-- R330 `BIT 7,L` (CB 7D). -/
def execBit7L (s : State) : Host.Outcome State Fault Refusal := bitReg .o7 .l s
/-- R331 `BIT 7,(HL)` (CB 7E). -/
def execBit7AtHl (s : State) : Host.Outcome State Fault Refusal := bitHl .o7 s
/-- R330 `BIT 7,A` (CB 7F). -/
def execBit7A (s : State) : Host.Outcome State Fault Refusal := bitReg .o7 .a s
/-- R332 `RES 0,B` (CB 80). -/
def execRes0B (s : State) : Host.Outcome State Fault Refusal := resReg .o0 .b s
/-- R332 `RES 0,C` (CB 81). -/
def execRes0C (s : State) : Host.Outcome State Fault Refusal := resReg .o0 .c s
/-- R332 `RES 0,D` (CB 82). -/
def execRes0D (s : State) : Host.Outcome State Fault Refusal := resReg .o0 .d s
/-- R332 `RES 0,E` (CB 83). -/
def execRes0E (s : State) : Host.Outcome State Fault Refusal := resReg .o0 .e s
/-- R332 `RES 0,H` (CB 84). -/
def execRes0H (s : State) : Host.Outcome State Fault Refusal := resReg .o0 .h s
/-- R332 `RES 0,L` (CB 85). -/
def execRes0L (s : State) : Host.Outcome State Fault Refusal := resReg .o0 .l s
/-- R333 `RES 0,(HL)` (CB 86). -/
def execRes0AtHl (s : State) : Host.Outcome State Fault Refusal := resHl .o0 s
/-- R332 `RES 0,A` (CB 87). -/
def execRes0A (s : State) : Host.Outcome State Fault Refusal := resReg .o0 .a s
/-- R332 `RES 1,B` (CB 88). -/
def execRes1B (s : State) : Host.Outcome State Fault Refusal := resReg .o1 .b s
/-- R332 `RES 1,C` (CB 89). -/
def execRes1C (s : State) : Host.Outcome State Fault Refusal := resReg .o1 .c s
/-- R332 `RES 1,D` (CB 8A). -/
def execRes1D (s : State) : Host.Outcome State Fault Refusal := resReg .o1 .d s
/-- R332 `RES 1,E` (CB 8B). -/
def execRes1E (s : State) : Host.Outcome State Fault Refusal := resReg .o1 .e s
/-- R332 `RES 1,H` (CB 8C). -/
def execRes1H (s : State) : Host.Outcome State Fault Refusal := resReg .o1 .h s
/-- R332 `RES 1,L` (CB 8D). -/
def execRes1L (s : State) : Host.Outcome State Fault Refusal := resReg .o1 .l s
/-- R333 `RES 1,(HL)` (CB 8E). -/
def execRes1AtHl (s : State) : Host.Outcome State Fault Refusal := resHl .o1 s
/-- R332 `RES 1,A` (CB 8F). -/
def execRes1A (s : State) : Host.Outcome State Fault Refusal := resReg .o1 .a s
/-- R332 `RES 2,B` (CB 90). -/
def execRes2B (s : State) : Host.Outcome State Fault Refusal := resReg .o2 .b s
/-- R332 `RES 2,C` (CB 91). -/
def execRes2C (s : State) : Host.Outcome State Fault Refusal := resReg .o2 .c s
/-- R332 `RES 2,D` (CB 92). -/
def execRes2D (s : State) : Host.Outcome State Fault Refusal := resReg .o2 .d s
/-- R332 `RES 2,E` (CB 93). -/
def execRes2E (s : State) : Host.Outcome State Fault Refusal := resReg .o2 .e s
/-- R332 `RES 2,H` (CB 94). -/
def execRes2H (s : State) : Host.Outcome State Fault Refusal := resReg .o2 .h s
/-- R332 `RES 2,L` (CB 95). -/
def execRes2L (s : State) : Host.Outcome State Fault Refusal := resReg .o2 .l s
/-- R333 `RES 2,(HL)` (CB 96). -/
def execRes2AtHl (s : State) : Host.Outcome State Fault Refusal := resHl .o2 s
/-- R332 `RES 2,A` (CB 97). -/
def execRes2A (s : State) : Host.Outcome State Fault Refusal := resReg .o2 .a s
/-- R332 `RES 3,B` (CB 98). -/
def execRes3B (s : State) : Host.Outcome State Fault Refusal := resReg .o3 .b s
/-- R332 `RES 3,C` (CB 99). -/
def execRes3C (s : State) : Host.Outcome State Fault Refusal := resReg .o3 .c s
/-- R332 `RES 3,D` (CB 9A). -/
def execRes3D (s : State) : Host.Outcome State Fault Refusal := resReg .o3 .d s
/-- R332 `RES 3,E` (CB 9B). -/
def execRes3E (s : State) : Host.Outcome State Fault Refusal := resReg .o3 .e s
/-- R332 `RES 3,H` (CB 9C). -/
def execRes3H (s : State) : Host.Outcome State Fault Refusal := resReg .o3 .h s
/-- R332 `RES 3,L` (CB 9D). -/
def execRes3L (s : State) : Host.Outcome State Fault Refusal := resReg .o3 .l s
/-- R333 `RES 3,(HL)` (CB 9E). -/
def execRes3AtHl (s : State) : Host.Outcome State Fault Refusal := resHl .o3 s
/-- R332 `RES 3,A` (CB 9F). -/
def execRes3A (s : State) : Host.Outcome State Fault Refusal := resReg .o3 .a s
/-- R332 `RES 4,B` (CB A0). -/
def execRes4B (s : State) : Host.Outcome State Fault Refusal := resReg .o4 .b s
/-- R332 `RES 4,C` (CB A1). -/
def execRes4C (s : State) : Host.Outcome State Fault Refusal := resReg .o4 .c s
/-- R332 `RES 4,D` (CB A2). -/
def execRes4D (s : State) : Host.Outcome State Fault Refusal := resReg .o4 .d s
/-- R332 `RES 4,E` (CB A3). -/
def execRes4E (s : State) : Host.Outcome State Fault Refusal := resReg .o4 .e s
/-- R332 `RES 4,H` (CB A4). -/
def execRes4H (s : State) : Host.Outcome State Fault Refusal := resReg .o4 .h s
/-- R332 `RES 4,L` (CB A5). -/
def execRes4L (s : State) : Host.Outcome State Fault Refusal := resReg .o4 .l s
/-- R333 `RES 4,(HL)` (CB A6). -/
def execRes4AtHl (s : State) : Host.Outcome State Fault Refusal := resHl .o4 s
/-- R332 `RES 4,A` (CB A7). -/
def execRes4A (s : State) : Host.Outcome State Fault Refusal := resReg .o4 .a s
/-- R332 `RES 5,B` (CB A8). -/
def execRes5B (s : State) : Host.Outcome State Fault Refusal := resReg .o5 .b s
/-- R332 `RES 5,C` (CB A9). -/
def execRes5C (s : State) : Host.Outcome State Fault Refusal := resReg .o5 .c s
/-- R332 `RES 5,D` (CB AA). -/
def execRes5D (s : State) : Host.Outcome State Fault Refusal := resReg .o5 .d s
/-- R332 `RES 5,E` (CB AB). -/
def execRes5E (s : State) : Host.Outcome State Fault Refusal := resReg .o5 .e s
/-- R332 `RES 5,H` (CB AC). -/
def execRes5H (s : State) : Host.Outcome State Fault Refusal := resReg .o5 .h s
/-- R332 `RES 5,L` (CB AD). -/
def execRes5L (s : State) : Host.Outcome State Fault Refusal := resReg .o5 .l s
/-- R333 `RES 5,(HL)` (CB AE). -/
def execRes5AtHl (s : State) : Host.Outcome State Fault Refusal := resHl .o5 s
/-- R332 `RES 5,A` (CB AF). -/
def execRes5A (s : State) : Host.Outcome State Fault Refusal := resReg .o5 .a s
/-- R332 `RES 6,B` (CB B0). -/
def execRes6B (s : State) : Host.Outcome State Fault Refusal := resReg .o6 .b s
/-- R332 `RES 6,C` (CB B1). -/
def execRes6C (s : State) : Host.Outcome State Fault Refusal := resReg .o6 .c s
/-- R332 `RES 6,D` (CB B2). -/
def execRes6D (s : State) : Host.Outcome State Fault Refusal := resReg .o6 .d s
/-- R332 `RES 6,E` (CB B3). -/
def execRes6E (s : State) : Host.Outcome State Fault Refusal := resReg .o6 .e s
/-- R332 `RES 6,H` (CB B4). -/
def execRes6H (s : State) : Host.Outcome State Fault Refusal := resReg .o6 .h s
/-- R332 `RES 6,L` (CB B5). -/
def execRes6L (s : State) : Host.Outcome State Fault Refusal := resReg .o6 .l s
/-- R333 `RES 6,(HL)` (CB B6). -/
def execRes6AtHl (s : State) : Host.Outcome State Fault Refusal := resHl .o6 s
/-- R332 `RES 6,A` (CB B7). -/
def execRes6A (s : State) : Host.Outcome State Fault Refusal := resReg .o6 .a s
/-- R332 `RES 7,B` (CB B8). -/
def execRes7B (s : State) : Host.Outcome State Fault Refusal := resReg .o7 .b s
/-- R332 `RES 7,C` (CB B9). -/
def execRes7C (s : State) : Host.Outcome State Fault Refusal := resReg .o7 .c s
/-- R332 `RES 7,D` (CB BA). -/
def execRes7D (s : State) : Host.Outcome State Fault Refusal := resReg .o7 .d s
/-- R332 `RES 7,E` (CB BB). -/
def execRes7E (s : State) : Host.Outcome State Fault Refusal := resReg .o7 .e s
/-- R332 `RES 7,H` (CB BC). -/
def execRes7H (s : State) : Host.Outcome State Fault Refusal := resReg .o7 .h s
/-- R332 `RES 7,L` (CB BD). -/
def execRes7L (s : State) : Host.Outcome State Fault Refusal := resReg .o7 .l s
/-- R333 `RES 7,(HL)` (CB BE). -/
def execRes7AtHl (s : State) : Host.Outcome State Fault Refusal := resHl .o7 s
/-- R332 `RES 7,A` (CB BF). -/
def execRes7A (s : State) : Host.Outcome State Fault Refusal := resReg .o7 .a s
/-- R334 `SET 0,B` (CB C0). -/
def execSet0B (s : State) : Host.Outcome State Fault Refusal := setReg .o0 .b s
/-- R334 `SET 0,C` (CB C1). -/
def execSet0C (s : State) : Host.Outcome State Fault Refusal := setReg .o0 .c s
/-- R334 `SET 0,D` (CB C2). -/
def execSet0D (s : State) : Host.Outcome State Fault Refusal := setReg .o0 .d s
/-- R334 `SET 0,E` (CB C3). -/
def execSet0E (s : State) : Host.Outcome State Fault Refusal := setReg .o0 .e s
/-- R334 `SET 0,H` (CB C4). -/
def execSet0H (s : State) : Host.Outcome State Fault Refusal := setReg .o0 .h s
/-- R334 `SET 0,L` (CB C5). -/
def execSet0L (s : State) : Host.Outcome State Fault Refusal := setReg .o0 .l s
/-- R335 `SET 0,(HL)` (CB C6). -/
def execSet0AtHl (s : State) : Host.Outcome State Fault Refusal := setHl .o0 s
/-- R334 `SET 0,A` (CB C7). -/
def execSet0A (s : State) : Host.Outcome State Fault Refusal := setReg .o0 .a s
/-- R334 `SET 1,B` (CB C8). -/
def execSet1B (s : State) : Host.Outcome State Fault Refusal := setReg .o1 .b s
/-- R334 `SET 1,C` (CB C9). -/
def execSet1C (s : State) : Host.Outcome State Fault Refusal := setReg .o1 .c s
/-- R334 `SET 1,D` (CB CA). -/
def execSet1D (s : State) : Host.Outcome State Fault Refusal := setReg .o1 .d s
/-- R334 `SET 1,E` (CB CB). -/
def execSet1E (s : State) : Host.Outcome State Fault Refusal := setReg .o1 .e s
/-- R334 `SET 1,H` (CB CC). -/
def execSet1H (s : State) : Host.Outcome State Fault Refusal := setReg .o1 .h s
/-- R334 `SET 1,L` (CB CD). -/
def execSet1L (s : State) : Host.Outcome State Fault Refusal := setReg .o1 .l s
/-- R335 `SET 1,(HL)` (CB CE). -/
def execSet1AtHl (s : State) : Host.Outcome State Fault Refusal := setHl .o1 s
/-- R334 `SET 1,A` (CB CF). -/
def execSet1A (s : State) : Host.Outcome State Fault Refusal := setReg .o1 .a s
/-- R334 `SET 2,B` (CB D0). -/
def execSet2B (s : State) : Host.Outcome State Fault Refusal := setReg .o2 .b s
/-- R334 `SET 2,C` (CB D1). -/
def execSet2C (s : State) : Host.Outcome State Fault Refusal := setReg .o2 .c s
/-- R334 `SET 2,D` (CB D2). -/
def execSet2D (s : State) : Host.Outcome State Fault Refusal := setReg .o2 .d s
/-- R334 `SET 2,E` (CB D3). -/
def execSet2E (s : State) : Host.Outcome State Fault Refusal := setReg .o2 .e s
/-- R334 `SET 2,H` (CB D4). -/
def execSet2H (s : State) : Host.Outcome State Fault Refusal := setReg .o2 .h s
/-- R334 `SET 2,L` (CB D5). -/
def execSet2L (s : State) : Host.Outcome State Fault Refusal := setReg .o2 .l s
/-- R335 `SET 2,(HL)` (CB D6). -/
def execSet2AtHl (s : State) : Host.Outcome State Fault Refusal := setHl .o2 s
/-- R334 `SET 2,A` (CB D7). -/
def execSet2A (s : State) : Host.Outcome State Fault Refusal := setReg .o2 .a s
/-- R334 `SET 3,B` (CB D8). -/
def execSet3B (s : State) : Host.Outcome State Fault Refusal := setReg .o3 .b s
/-- R334 `SET 3,C` (CB D9). -/
def execSet3C (s : State) : Host.Outcome State Fault Refusal := setReg .o3 .c s
/-- R334 `SET 3,D` (CB DA). -/
def execSet3D (s : State) : Host.Outcome State Fault Refusal := setReg .o3 .d s
/-- R334 `SET 3,E` (CB DB). -/
def execSet3E (s : State) : Host.Outcome State Fault Refusal := setReg .o3 .e s
/-- R334 `SET 3,H` (CB DC). -/
def execSet3H (s : State) : Host.Outcome State Fault Refusal := setReg .o3 .h s
/-- R334 `SET 3,L` (CB DD). -/
def execSet3L (s : State) : Host.Outcome State Fault Refusal := setReg .o3 .l s
/-- R335 `SET 3,(HL)` (CB DE). -/
def execSet3AtHl (s : State) : Host.Outcome State Fault Refusal := setHl .o3 s
/-- R334 `SET 3,A` (CB DF). -/
def execSet3A (s : State) : Host.Outcome State Fault Refusal := setReg .o3 .a s
/-- R334 `SET 4,B` (CB E0). -/
def execSet4B (s : State) : Host.Outcome State Fault Refusal := setReg .o4 .b s
/-- R334 `SET 4,C` (CB E1). -/
def execSet4C (s : State) : Host.Outcome State Fault Refusal := setReg .o4 .c s
/-- R334 `SET 4,D` (CB E2). -/
def execSet4D (s : State) : Host.Outcome State Fault Refusal := setReg .o4 .d s
/-- R334 `SET 4,E` (CB E3). -/
def execSet4E (s : State) : Host.Outcome State Fault Refusal := setReg .o4 .e s
/-- R334 `SET 4,H` (CB E4). -/
def execSet4H (s : State) : Host.Outcome State Fault Refusal := setReg .o4 .h s
/-- R334 `SET 4,L` (CB E5). -/
def execSet4L (s : State) : Host.Outcome State Fault Refusal := setReg .o4 .l s
/-- R335 `SET 4,(HL)` (CB E6). -/
def execSet4AtHl (s : State) : Host.Outcome State Fault Refusal := setHl .o4 s
/-- R334 `SET 4,A` (CB E7). -/
def execSet4A (s : State) : Host.Outcome State Fault Refusal := setReg .o4 .a s
/-- R334 `SET 5,B` (CB E8). -/
def execSet5B (s : State) : Host.Outcome State Fault Refusal := setReg .o5 .b s
/-- R334 `SET 5,C` (CB E9). -/
def execSet5C (s : State) : Host.Outcome State Fault Refusal := setReg .o5 .c s
/-- R334 `SET 5,D` (CB EA). -/
def execSet5D (s : State) : Host.Outcome State Fault Refusal := setReg .o5 .d s
/-- R334 `SET 5,E` (CB EB). -/
def execSet5E (s : State) : Host.Outcome State Fault Refusal := setReg .o5 .e s
/-- R334 `SET 5,H` (CB EC). -/
def execSet5H (s : State) : Host.Outcome State Fault Refusal := setReg .o5 .h s
/-- R334 `SET 5,L` (CB ED). -/
def execSet5L (s : State) : Host.Outcome State Fault Refusal := setReg .o5 .l s
/-- R335 `SET 5,(HL)` (CB EE). -/
def execSet5AtHl (s : State) : Host.Outcome State Fault Refusal := setHl .o5 s
/-- R334 `SET 5,A` (CB EF). -/
def execSet5A (s : State) : Host.Outcome State Fault Refusal := setReg .o5 .a s
/-- R334 `SET 6,B` (CB F0). -/
def execSet6B (s : State) : Host.Outcome State Fault Refusal := setReg .o6 .b s
/-- R334 `SET 6,C` (CB F1). -/
def execSet6C (s : State) : Host.Outcome State Fault Refusal := setReg .o6 .c s
/-- R334 `SET 6,D` (CB F2). -/
def execSet6D (s : State) : Host.Outcome State Fault Refusal := setReg .o6 .d s
/-- R334 `SET 6,E` (CB F3). -/
def execSet6E (s : State) : Host.Outcome State Fault Refusal := setReg .o6 .e s
/-- R334 `SET 6,H` (CB F4). -/
def execSet6H (s : State) : Host.Outcome State Fault Refusal := setReg .o6 .h s
/-- R334 `SET 6,L` (CB F5). -/
def execSet6L (s : State) : Host.Outcome State Fault Refusal := setReg .o6 .l s
/-- R335 `SET 6,(HL)` (CB F6). -/
def execSet6AtHl (s : State) : Host.Outcome State Fault Refusal := setHl .o6 s
/-- R334 `SET 6,A` (CB F7). -/
def execSet6A (s : State) : Host.Outcome State Fault Refusal := setReg .o6 .a s
/-- R334 `SET 7,B` (CB F8). -/
def execSet7B (s : State) : Host.Outcome State Fault Refusal := setReg .o7 .b s
/-- R334 `SET 7,C` (CB F9). -/
def execSet7C (s : State) : Host.Outcome State Fault Refusal := setReg .o7 .c s
/-- R334 `SET 7,D` (CB FA). -/
def execSet7D (s : State) : Host.Outcome State Fault Refusal := setReg .o7 .d s
/-- R334 `SET 7,E` (CB FB). -/
def execSet7E (s : State) : Host.Outcome State Fault Refusal := setReg .o7 .e s
/-- R334 `SET 7,H` (CB FC). -/
def execSet7H (s : State) : Host.Outcome State Fault Refusal := setReg .o7 .h s
/-- R334 `SET 7,L` (CB FD). -/
def execSet7L (s : State) : Host.Outcome State Fault Refusal := setReg .o7 .l s
/-- R335 `SET 7,(HL)` (CB FE). -/
def execSet7AtHl (s : State) : Host.Outcome State Fault Refusal := setHl .o7 s
/-- R334 `SET 7,A` (CB FF). -/
def execSet7A (s : State) : Host.Outcome State Fault Refusal := setReg .o7 .a s

end Sys2Proof.Machine
end

