-- ==== Sys2Proof/Machine/Control.lean ====
section
/-! DEFINITION. Jumps, calls, returns and restarts (spec/47_control.md R350 to R365). First the shared operations, one per
rule, each the schedule the rule gives (M1, M2, …); then one definition per instruction. -/

namespace Sys2Proof.Machine

/-- The RST target `t = y * 8` (R108, R365). -/
def rstTarget (t : Oct) : Word := BitVec.ofNat 16 (8 * t.toNat)

/-- R350 `JP n16`. -/
def jp : Seg := perform [idle, fetchLo, fetchHi, jumpAddr]

/-- R351 `JP cc,n16`: the condition is tested in M3. -/
def jpCc (cc : Cond) : Seg := perform
  [idle, fetchLo, fetchInto fun v s => (s.setHi v).branchIf cc 1, jumpAddr]

/-- R352 `JP HL`. -/
def jpHl : Seg := perform [act fun s => s.setPc s.hl]

/-- R353 `JR e8`. -/
def jr : Seg := perform [idle, fetchTmp, jumpRel]

/-- R354 `JR cc,e8`: the condition is tested in M2. -/
def jrCc (cc : Cond) : Seg := perform [idle, fetchInto fun v s => (s.setTmp v).branchIf cc 1, jumpRel]

/-- M6 of a call (R355): the low byte of PC is pushed and PC takes the target. -/
def callJump : Seg := withAddr fun a => pushLow (fun s => s.pc) fun s => s.setPc a

/-- R355 `CALL n16`. -/
def call : Seg := perform [idle, fetchLo, fetchHi, decSp, pushHigh fun s => s.pc, callJump]

/-- R356 `CALL cc,n16`: the condition is tested in M3. -/
def callCc (cc : Cond) : Seg := perform
  [idle, fetchLo, fetchInto fun v s => (s.setHi v).branchIf cc 3, decSp, pushHigh fun s => s.pc, callJump]

/-- R365 `RST t`. -/
def rst (t : Oct) : Seg := perform
  [idle, decSp, pushHigh fun s => s.pc, pushLow (fun s => s.pc) fun s => s.setPc (rstTarget t)]

/-- R361 `RET cc`: the condition is tested in M2. -/
def retCc (cc : Cond) : Seg := perform [idle, act fun s => s.branchIf cc 3, popLo, popHi, jumpAddr]

/-! ### The instructions -/

/-- R353 `JR e8` (0x18). -/
def execJrE8 (s : State) : Host.Outcome State Fault Refusal := jr s
/-- R354 `JR NZ,e8` (0x20). -/
def execJrNzE8 (s : State) : Host.Outcome State Fault Refusal := jrCc .nz s
/-- R354 `JR Z,e8` (0x28). -/
def execJrZE8 (s : State) : Host.Outcome State Fault Refusal := jrCc .z s
/-- R354 `JR NC,e8` (0x30). -/
def execJrNcE8 (s : State) : Host.Outcome State Fault Refusal := jrCc .nc s
/-- R354 `JR C,e8` (0x38). -/
def execJrCE8 (s : State) : Host.Outcome State Fault Refusal := jrCc .c s
/-- R361 `RET NZ` (0xC0). -/
def execRetNz (s : State) : Host.Outcome State Fault Refusal := retCc .nz s
/-- R351 `JP NZ,n16` (0xC2). -/
def execJpNzN16 (s : State) : Host.Outcome State Fault Refusal := jpCc .nz s
/-- R350 `JP n16` (0xC3). -/
def execJpN16 (s : State) : Host.Outcome State Fault Refusal := jp s
/-- R356 `CALL NZ,n16` (0xC4). -/
def execCallNzN16 (s : State) : Host.Outcome State Fault Refusal := callCc .nz s
/-- R365 `RST 0x00` (0xC7). -/
def execRst00 (s : State) : Host.Outcome State Fault Refusal := rst .o0 s
/-- R361 `RET Z` (0xC8). -/
def execRetZ (s : State) : Host.Outcome State Fault Refusal := retCc .z s
/-- R360 `RET` (0xC9). -/
def execRet (s : State) : Host.Outcome State Fault Refusal := returnFrom s
/-- R351 `JP Z,n16` (0xCA). -/
def execJpZN16 (s : State) : Host.Outcome State Fault Refusal := jpCc .z s
/-- R356 `CALL Z,n16` (0xCC). -/
def execCallZN16 (s : State) : Host.Outcome State Fault Refusal := callCc .z s
/-- R355 `CALL n16` (0xCD). -/
def execCallN16 (s : State) : Host.Outcome State Fault Refusal := call s
/-- R365 `RST 0x08` (0xCF). -/
def execRst08 (s : State) : Host.Outcome State Fault Refusal := rst .o1 s
/-- R361 `RET NC` (0xD0). -/
def execRetNc (s : State) : Host.Outcome State Fault Refusal := retCc .nc s
/-- R351 `JP NC,n16` (0xD2). -/
def execJpNcN16 (s : State) : Host.Outcome State Fault Refusal := jpCc .nc s
/-- R356 `CALL NC,n16` (0xD4). -/
def execCallNcN16 (s : State) : Host.Outcome State Fault Refusal := callCc .nc s
/-- R365 `RST 0x10` (0xD7). -/
def execRst10 (s : State) : Host.Outcome State Fault Refusal := rst .o2 s
/-- R361 `RET C` (0xD8). -/
def execRetC (s : State) : Host.Outcome State Fault Refusal := retCc .c s
/-- R363 `RETI` (0xD9). -/
def execReti (s : State) : Host.Outcome State Fault Refusal := returnFromInterrupt s
/-- R351 `JP C,n16` (0xDA). -/
def execJpCN16 (s : State) : Host.Outcome State Fault Refusal := jpCc .c s
/-- R356 `CALL C,n16` (0xDC). -/
def execCallCN16 (s : State) : Host.Outcome State Fault Refusal := callCc .c s
/-- R365 `RST 0x18` (0xDF). -/
def execRst18 (s : State) : Host.Outcome State Fault Refusal := rst .o3 s
/-- R365 `RST 0x20` (0xE7). -/
def execRst20 (s : State) : Host.Outcome State Fault Refusal := rst .o4 s
/-- R352 `JP HL` (0xE9). -/
def execJpHl (s : State) : Host.Outcome State Fault Refusal := jpHl s
/-- R365 `RST 0x28` (0xEF). -/
def execRst28 (s : State) : Host.Outcome State Fault Refusal := rst .o5 s
/-- R365 `RST 0x30` (0xF7). -/
def execRst30 (s : State) : Host.Outcome State Fault Refusal := rst .o6 s
/-- R365 `RST 0x38` (0xFF). -/
def execRst38 (s : State) : Host.Outcome State Fault Refusal := rst .o7 s

end Sys2Proof.Machine
end

