-- ==== Sys2Proof/Machine/Load16.lean ====
section
/-! DEFINITION. The 16-bit loads and the stack (spec/42_load16.md R230 to R237). First the shared operations, one per
rule, each the schedule the rule gives (M1, M2, …); then one definition per instruction. -/

namespace Sys2Proof.Machine

/-- R230 `LD rr,n16`. -/
def ldPairImm (p : Pair16) : Seg := perform
  [idle, fetchLo, withLo fun lo => fetchInto fun hi s => (s.setHi hi).setPair p (joinBytes hi lo)]

/-- R231 `LD (n16),SP`. -/
def ldAbsSp : Seg := perform
  [idle, fetchLo, fetchHi,
    withAddr fun a => writeThen (fun _ => a) (fun s => lowByte s.sp) id,
    withAddr fun a => writeThen (fun _ => a + 1) (fun s => highByte s.sp) id]

/-- R232 `LD SP,HL`. -/
def ldSpHl : Seg := perform [idle, act fun s => s.setSp s.hl]

/-- R236 `PUSH qq`. -/
def push (q : StackPair) : Seg := perform
  [idle, decSp, pushHigh (fun s => s.regs.stackPair q), pushLow (fun s => s.regs.stackPair q) id]

/-- R237 `POP qq`. -/
def pop (q : StackPair) : Seg := perform
  [idle, popLo,
    withLo fun lo => readInto State.sp fun hi s => ((s.setHi hi).setSp (s.sp + 1)).setStackPair q (joinBytes hi lo)]

/-! ### The instructions -/

/-- R230 `LD BC,n16` (0x01). -/
def execLdBcN16 (s : State) : Host.Outcome State Fault Refusal := ldPairImm .bc s
/-- R231 `LD (n16),SP` (0x08). -/
def execLdAtN16Sp (s : State) : Host.Outcome State Fault Refusal := ldAbsSp s
/-- R230 `LD DE,n16` (0x11). -/
def execLdDeN16 (s : State) : Host.Outcome State Fault Refusal := ldPairImm .de s
/-- R230 `LD HL,n16` (0x21). -/
def execLdHlN16 (s : State) : Host.Outcome State Fault Refusal := ldPairImm .hl s
/-- R230 `LD SP,n16` (0x31). -/
def execLdSpN16 (s : State) : Host.Outcome State Fault Refusal := ldPairImm .sp s
/-- R237 `POP BC` (0xC1). -/
def execPopBc (s : State) : Host.Outcome State Fault Refusal := pop .bc s
/-- R236 `PUSH BC` (0xC5). -/
def execPushBc (s : State) : Host.Outcome State Fault Refusal := push .bc s
/-- R237 `POP DE` (0xD1). -/
def execPopDe (s : State) : Host.Outcome State Fault Refusal := pop .de s
/-- R236 `PUSH DE` (0xD5). -/
def execPushDe (s : State) : Host.Outcome State Fault Refusal := push .de s
/-- R237 `POP HL` (0xE1). -/
def execPopHl (s : State) : Host.Outcome State Fault Refusal := pop .hl s
/-- R236 `PUSH HL` (0xE5). -/
def execPushHl (s : State) : Host.Outcome State Fault Refusal := push .hl s
/-- R237 `POP AF` (0xF1). -/
def execPopAf (s : State) : Host.Outcome State Fault Refusal := pop .af s
/-- R236 `PUSH AF` (0xF5). -/
def execPushAf (s : State) : Host.Outcome State Fault Refusal := push .af s
/-- R232 `LD SP,HL` (0xF9). -/
def execLdSpHl (s : State) : Host.Outcome State Fault Refusal := ldSpHl s

end Sys2Proof.Machine
end

