-- ==== Sys2Proof/Machine/Load8.lean ====
section
/-! DEFINITION. The 8-bit loads (spec/41_load8.md R200 to R216). First the shared operations, one per
rule, each the schedule the rule gives (M1, M2, …); then one definition per instruction. -/

namespace Sys2Proof.Machine

/-- R200 `LD r,r'`. -/
def ldRegReg (dst src : Reg8) : Seg := perform [act fun s => s.setReg dst (s.reg src)]

/-- R201 `LD r,n8`. -/
def ldRegImm (dst : Reg8) : Seg := perform [idle, fetchInto fun v s => s.setReg dst v]

/-- R202 `LD r,(HL)`. -/
def ldRegHl (dst : Reg8) : Seg := perform [idle, readInto State.hl fun v s => s.setReg dst v]

/-- R203 `LD (HL),r`. -/
def ldHlReg (r : Reg8) : Seg := perform [idle, writeThen State.hl (fun s => s.reg r) id]

/-- R204 `LD (HL),n8`. -/
def ldHlImm : Seg := perform [idle, fetchTmp, withTmp fun v => writeThen State.hl (fun _ => v) id]

/-- R205 `LD A,(rr)`. -/
def ldAInd (p : IndPair) : Seg := perform [idle, readInto (fun s => s.pair (indPair p)) fun v s => s.setReg .a v]

/-- R206 `LD (rr),A`. -/
def ldIndA (p : IndPair) : Seg := perform [idle, writeThen (fun s => s.pair (indPair p)) (fun s => s.reg .a) id]

/-- R207 `LD A,(HL+)`. -/
def ldAHlInc : Seg := perform
  [idle, readInto State.hl fun v s => (s.setReg .a v).setPair .hl (s.hl + 1)]

/-- R208 `LD A,(HL-)`. -/
def ldAHlDec : Seg := perform
  [idle, readInto State.hl fun v s => (s.setReg .a v).setPair .hl (s.hl - 1)]

/-- R209 `LD (HL+),A`. -/
def ldHlIncA : Seg := perform
  [idle, writeThen State.hl (fun s => s.reg .a) fun s => s.setPair .hl (s.hl + 1)]

/-- R210 `LD (HL-),A`. -/
def ldHlDecA : Seg := perform
  [idle, writeThen State.hl (fun s => s.reg .a) fun s => s.setPair .hl (s.hl - 1)]

/-- R211 `LD A,(n16)`. -/
def ldAAbs : Seg := perform
  [idle, fetchLo, fetchHi, withAddr fun a => readInto (fun _ => a) fun v s => s.setReg .a v]

/-- R212 `LD (n16),A`. -/
def ldAbsA : Seg := perform
  [idle, fetchLo, fetchHi, withAddr fun a => writeThen (fun _ => a) (fun s => s.reg .a) id]

/-- R213 `LDH A,(n8)`. -/
def ldhAImm : Seg := perform
  [idle, fetchTmp, withTmp fun n => readInto (fun _ => highPage n) fun v s => s.setReg .a v]

/-- R214 `LDH (n8),A`. -/
def ldhImmA : Seg := perform
  [idle, fetchTmp, withTmp fun n => writeThen (fun _ => highPage n) (fun s => s.reg .a) id]

/-- R215 `LD A,(C)`. -/
def ldAC : Seg := perform [idle, readInto (fun s => highPage (s.reg .c)) fun v s => s.setReg .a v]

/-- R216 `LD (C),A`. -/
def ldCA : Seg := perform [idle, writeThen (fun s => highPage (s.reg .c)) (fun s => s.reg .a) id]

/-! ### The instructions -/

/-- R206 `LD (BC),A` (0x02). -/
def execLdAtBcA (s : State) : Host.Outcome State Fault Refusal := ldIndA .bc s
/-- R201 `LD B,n8` (0x06). -/
def execLdBN8 (s : State) : Host.Outcome State Fault Refusal := ldRegImm .b s
/-- R205 `LD A,(BC)` (0x0A). -/
def execLdAAtBc (s : State) : Host.Outcome State Fault Refusal := ldAInd .bc s
/-- R201 `LD C,n8` (0x0E). -/
def execLdCN8 (s : State) : Host.Outcome State Fault Refusal := ldRegImm .c s
/-- R206 `LD (DE),A` (0x12). -/
def execLdAtDeA (s : State) : Host.Outcome State Fault Refusal := ldIndA .de s
/-- R201 `LD D,n8` (0x16). -/
def execLdDN8 (s : State) : Host.Outcome State Fault Refusal := ldRegImm .d s
/-- R205 `LD A,(DE)` (0x1A). -/
def execLdAAtDe (s : State) : Host.Outcome State Fault Refusal := ldAInd .de s
/-- R201 `LD E,n8` (0x1E). -/
def execLdEN8 (s : State) : Host.Outcome State Fault Refusal := ldRegImm .e s
/-- R209 `LD (HL+),A` (0x22). -/
def execLdAtHlIncA (s : State) : Host.Outcome State Fault Refusal := ldHlIncA s
/-- R201 `LD H,n8` (0x26). -/
def execLdHN8 (s : State) : Host.Outcome State Fault Refusal := ldRegImm .h s
/-- R207 `LD A,(HL+)` (0x2A). -/
def execLdAAtHlInc (s : State) : Host.Outcome State Fault Refusal := ldAHlInc s
/-- R201 `LD L,n8` (0x2E). -/
def execLdLN8 (s : State) : Host.Outcome State Fault Refusal := ldRegImm .l s
/-- R210 `LD (HL-),A` (0x32). -/
def execLdAtHlDecA (s : State) : Host.Outcome State Fault Refusal := ldHlDecA s
/-- R204 `LD (HL),n8` (0x36). -/
def execLdAtHlN8 (s : State) : Host.Outcome State Fault Refusal := ldHlImm s
/-- R208 `LD A,(HL-)` (0x3A). -/
def execLdAAtHlDec (s : State) : Host.Outcome State Fault Refusal := ldAHlDec s
/-- R201 `LD A,n8` (0x3E). -/
def execLdAN8 (s : State) : Host.Outcome State Fault Refusal := ldRegImm .a s
/-- R200 `LD B,B` (0x40). -/
def execLdBB (s : State) : Host.Outcome State Fault Refusal := ldRegReg .b .b s
/-- R200 `LD B,C` (0x41). -/
def execLdBC (s : State) : Host.Outcome State Fault Refusal := ldRegReg .b .c s
/-- R200 `LD B,D` (0x42). -/
def execLdBD (s : State) : Host.Outcome State Fault Refusal := ldRegReg .b .d s
/-- R200 `LD B,E` (0x43). -/
def execLdBE (s : State) : Host.Outcome State Fault Refusal := ldRegReg .b .e s
/-- R200 `LD B,H` (0x44). -/
def execLdBH (s : State) : Host.Outcome State Fault Refusal := ldRegReg .b .h s
/-- R200 `LD B,L` (0x45). -/
def execLdBL (s : State) : Host.Outcome State Fault Refusal := ldRegReg .b .l s
/-- R202 `LD B,(HL)` (0x46). -/
def execLdBAtHl (s : State) : Host.Outcome State Fault Refusal := ldRegHl .b s
/-- R200 `LD B,A` (0x47). -/
def execLdBA (s : State) : Host.Outcome State Fault Refusal := ldRegReg .b .a s
/-- R200 `LD C,B` (0x48). -/
def execLdCB (s : State) : Host.Outcome State Fault Refusal := ldRegReg .c .b s
/-- R200 `LD C,C` (0x49). -/
def execLdCC (s : State) : Host.Outcome State Fault Refusal := ldRegReg .c .c s
/-- R200 `LD C,D` (0x4A). -/
def execLdCD (s : State) : Host.Outcome State Fault Refusal := ldRegReg .c .d s
/-- R200 `LD C,E` (0x4B). -/
def execLdCE (s : State) : Host.Outcome State Fault Refusal := ldRegReg .c .e s
/-- R200 `LD C,H` (0x4C). -/
def execLdCH (s : State) : Host.Outcome State Fault Refusal := ldRegReg .c .h s
/-- R200 `LD C,L` (0x4D). -/
def execLdCL (s : State) : Host.Outcome State Fault Refusal := ldRegReg .c .l s
/-- R202 `LD C,(HL)` (0x4E). -/
def execLdCAtHl (s : State) : Host.Outcome State Fault Refusal := ldRegHl .c s
/-- R200 `LD C,A` (0x4F). -/
def execLdCA (s : State) : Host.Outcome State Fault Refusal := ldRegReg .c .a s
/-- R200 `LD D,B` (0x50). -/
def execLdDB (s : State) : Host.Outcome State Fault Refusal := ldRegReg .d .b s
/-- R200 `LD D,C` (0x51). -/
def execLdDC (s : State) : Host.Outcome State Fault Refusal := ldRegReg .d .c s
/-- R200 `LD D,D` (0x52). -/
def execLdDD (s : State) : Host.Outcome State Fault Refusal := ldRegReg .d .d s
/-- R200 `LD D,E` (0x53). -/
def execLdDE (s : State) : Host.Outcome State Fault Refusal := ldRegReg .d .e s
/-- R200 `LD D,H` (0x54). -/
def execLdDH (s : State) : Host.Outcome State Fault Refusal := ldRegReg .d .h s
/-- R200 `LD D,L` (0x55). -/
def execLdDL (s : State) : Host.Outcome State Fault Refusal := ldRegReg .d .l s
/-- R202 `LD D,(HL)` (0x56). -/
def execLdDAtHl (s : State) : Host.Outcome State Fault Refusal := ldRegHl .d s
/-- R200 `LD D,A` (0x57). -/
def execLdDA (s : State) : Host.Outcome State Fault Refusal := ldRegReg .d .a s
/-- R200 `LD E,B` (0x58). -/
def execLdEB (s : State) : Host.Outcome State Fault Refusal := ldRegReg .e .b s
/-- R200 `LD E,C` (0x59). -/
def execLdEC (s : State) : Host.Outcome State Fault Refusal := ldRegReg .e .c s
/-- R200 `LD E,D` (0x5A). -/
def execLdED (s : State) : Host.Outcome State Fault Refusal := ldRegReg .e .d s
/-- R200 `LD E,E` (0x5B). -/
def execLdEE (s : State) : Host.Outcome State Fault Refusal := ldRegReg .e .e s
/-- R200 `LD E,H` (0x5C). -/
def execLdEH (s : State) : Host.Outcome State Fault Refusal := ldRegReg .e .h s
/-- R200 `LD E,L` (0x5D). -/
def execLdEL (s : State) : Host.Outcome State Fault Refusal := ldRegReg .e .l s
/-- R202 `LD E,(HL)` (0x5E). -/
def execLdEAtHl (s : State) : Host.Outcome State Fault Refusal := ldRegHl .e s
/-- R200 `LD E,A` (0x5F). -/
def execLdEA (s : State) : Host.Outcome State Fault Refusal := ldRegReg .e .a s
/-- R200 `LD H,B` (0x60). -/
def execLdHB (s : State) : Host.Outcome State Fault Refusal := ldRegReg .h .b s
/-- R200 `LD H,C` (0x61). -/
def execLdHC (s : State) : Host.Outcome State Fault Refusal := ldRegReg .h .c s
/-- R200 `LD H,D` (0x62). -/
def execLdHD (s : State) : Host.Outcome State Fault Refusal := ldRegReg .h .d s
/-- R200 `LD H,E` (0x63). -/
def execLdHE (s : State) : Host.Outcome State Fault Refusal := ldRegReg .h .e s
/-- R200 `LD H,H` (0x64). -/
def execLdHH (s : State) : Host.Outcome State Fault Refusal := ldRegReg .h .h s
/-- R200 `LD H,L` (0x65). -/
def execLdHL (s : State) : Host.Outcome State Fault Refusal := ldRegReg .h .l s
/-- R202 `LD H,(HL)` (0x66). -/
def execLdHAtHl (s : State) : Host.Outcome State Fault Refusal := ldRegHl .h s
/-- R200 `LD H,A` (0x67). -/
def execLdHA (s : State) : Host.Outcome State Fault Refusal := ldRegReg .h .a s
/-- R200 `LD L,B` (0x68). -/
def execLdLB (s : State) : Host.Outcome State Fault Refusal := ldRegReg .l .b s
/-- R200 `LD L,C` (0x69). -/
def execLdLC (s : State) : Host.Outcome State Fault Refusal := ldRegReg .l .c s
/-- R200 `LD L,D` (0x6A). -/
def execLdLD (s : State) : Host.Outcome State Fault Refusal := ldRegReg .l .d s
/-- R200 `LD L,E` (0x6B). -/
def execLdLE (s : State) : Host.Outcome State Fault Refusal := ldRegReg .l .e s
/-- R200 `LD L,H` (0x6C). -/
def execLdLH (s : State) : Host.Outcome State Fault Refusal := ldRegReg .l .h s
/-- R200 `LD L,L` (0x6D). -/
def execLdLL (s : State) : Host.Outcome State Fault Refusal := ldRegReg .l .l s
/-- R202 `LD L,(HL)` (0x6E). -/
def execLdLAtHl (s : State) : Host.Outcome State Fault Refusal := ldRegHl .l s
/-- R200 `LD L,A` (0x6F). -/
def execLdLA (s : State) : Host.Outcome State Fault Refusal := ldRegReg .l .a s
/-- R203 `LD (HL),B` (0x70). -/
def execLdAtHlB (s : State) : Host.Outcome State Fault Refusal := ldHlReg .b s
/-- R203 `LD (HL),C` (0x71). -/
def execLdAtHlC (s : State) : Host.Outcome State Fault Refusal := ldHlReg .c s
/-- R203 `LD (HL),D` (0x72). -/
def execLdAtHlD (s : State) : Host.Outcome State Fault Refusal := ldHlReg .d s
/-- R203 `LD (HL),E` (0x73). -/
def execLdAtHlE (s : State) : Host.Outcome State Fault Refusal := ldHlReg .e s
/-- R203 `LD (HL),H` (0x74). -/
def execLdAtHlH (s : State) : Host.Outcome State Fault Refusal := ldHlReg .h s
/-- R203 `LD (HL),L` (0x75). -/
def execLdAtHlL (s : State) : Host.Outcome State Fault Refusal := ldHlReg .l s
/-- R203 `LD (HL),A` (0x77). -/
def execLdAtHlA (s : State) : Host.Outcome State Fault Refusal := ldHlReg .a s
/-- R200 `LD A,B` (0x78). -/
def execLdAB (s : State) : Host.Outcome State Fault Refusal := ldRegReg .a .b s
/-- R200 `LD A,C` (0x79). -/
def execLdAC (s : State) : Host.Outcome State Fault Refusal := ldRegReg .a .c s
/-- R200 `LD A,D` (0x7A). -/
def execLdAD (s : State) : Host.Outcome State Fault Refusal := ldRegReg .a .d s
/-- R200 `LD A,E` (0x7B). -/
def execLdAE (s : State) : Host.Outcome State Fault Refusal := ldRegReg .a .e s
/-- R200 `LD A,H` (0x7C). -/
def execLdAH (s : State) : Host.Outcome State Fault Refusal := ldRegReg .a .h s
/-- R200 `LD A,L` (0x7D). -/
def execLdAL (s : State) : Host.Outcome State Fault Refusal := ldRegReg .a .l s
/-- R202 `LD A,(HL)` (0x7E). -/
def execLdAAtHl (s : State) : Host.Outcome State Fault Refusal := ldRegHl .a s
/-- R200 `LD A,A` (0x7F). -/
def execLdAA (s : State) : Host.Outcome State Fault Refusal := ldRegReg .a .a s
/-- R214 `LDH (n8),A` (0xE0). -/
def execLdhAtN8A (s : State) : Host.Outcome State Fault Refusal := ldhImmA s
/-- R216 `LD (C),A` (0xE2). -/
def execLdAtCA (s : State) : Host.Outcome State Fault Refusal := ldCA s
/-- R212 `LD (n16),A` (0xEA). -/
def execLdAtN16A (s : State) : Host.Outcome State Fault Refusal := ldAbsA s
/-- R213 `LDH A,(n8)` (0xF0). -/
def execLdhAAtN8 (s : State) : Host.Outcome State Fault Refusal := ldhAImm s
/-- R215 `LD A,(C)` (0xF2). -/
def execLdAAtC (s : State) : Host.Outcome State Fault Refusal := ldAC s
/-- R211 `LD A,(n16)` (0xFA). -/
def execLdAAtN16 (s : State) : Host.Outcome State Fault Refusal := ldAAbs s

end Sys2Proof.Machine
end

