-- ==== Sys2Proof/Machine/Rotate.lean ====
section
/-! DEFINITION. The rotates, shifts and SWAP (spec/45_rotate_shift.md R300 to R321). First the shared operations, one per
rule, each the schedule the rule gives (M1, M2, …); then one definition per instruction. -/

namespace Sys2Proof.Machine

/-- R300 to R303: a rotate of A, selected by `op`. -/
def rotateA (op : RotOp) : Seg := perform [act fun s => s.setResult .a (rotAcc op s.regs.a s.regs.flags)]

/-- R304 to R318, register form (R320): M1 is the prefix's, M2 operates. -/
def rotReg (op : RotOp) (r : Reg8) : Seg := perform
  [idle, act fun s => s.setResult r (rotCb op (s.reg r) s.regs.flags)]

/-- R305 to R319, `(HL)` form (R320). -/
def rotHl (op : RotOp) : Seg := perform [idle, idle, readHlTmp, modifyHl (rotCb op)]

/-! ### The instructions -/

/-- R300 `RLCA` (0x07). -/
def execRlca (s : State) : Host.Outcome State Fault Refusal := rotateA .rlc s
/-- R301 `RRCA` (0x0F). -/
def execRrca (s : State) : Host.Outcome State Fault Refusal := rotateA .rrc s
/-- R302 `RLA` (0x17). -/
def execRla (s : State) : Host.Outcome State Fault Refusal := rotateA .rl s
/-- R303 `RRA` (0x1F). -/
def execRra (s : State) : Host.Outcome State Fault Refusal := rotateA .rr s
/-- R304 `RLC B` (CB 00). -/
def execRlcB (s : State) : Host.Outcome State Fault Refusal := rotReg .rlc .b s
/-- R304 `RLC C` (CB 01). -/
def execRlcC (s : State) : Host.Outcome State Fault Refusal := rotReg .rlc .c s
/-- R304 `RLC D` (CB 02). -/
def execRlcD (s : State) : Host.Outcome State Fault Refusal := rotReg .rlc .d s
/-- R304 `RLC E` (CB 03). -/
def execRlcE (s : State) : Host.Outcome State Fault Refusal := rotReg .rlc .e s
/-- R304 `RLC H` (CB 04). -/
def execRlcH (s : State) : Host.Outcome State Fault Refusal := rotReg .rlc .h s
/-- R304 `RLC L` (CB 05). -/
def execRlcL (s : State) : Host.Outcome State Fault Refusal := rotReg .rlc .l s
/-- R305 `RLC (HL)` (CB 06). -/
def execRlcAtHl (s : State) : Host.Outcome State Fault Refusal := rotHl .rlc s
/-- R304 `RLC A` (CB 07). -/
def execRlcA (s : State) : Host.Outcome State Fault Refusal := rotReg .rlc .a s
/-- R306 `RRC B` (CB 08). -/
def execRrcB (s : State) : Host.Outcome State Fault Refusal := rotReg .rrc .b s
/-- R306 `RRC C` (CB 09). -/
def execRrcC (s : State) : Host.Outcome State Fault Refusal := rotReg .rrc .c s
/-- R306 `RRC D` (CB 0A). -/
def execRrcD (s : State) : Host.Outcome State Fault Refusal := rotReg .rrc .d s
/-- R306 `RRC E` (CB 0B). -/
def execRrcE (s : State) : Host.Outcome State Fault Refusal := rotReg .rrc .e s
/-- R306 `RRC H` (CB 0C). -/
def execRrcH (s : State) : Host.Outcome State Fault Refusal := rotReg .rrc .h s
/-- R306 `RRC L` (CB 0D). -/
def execRrcL (s : State) : Host.Outcome State Fault Refusal := rotReg .rrc .l s
/-- R307 `RRC (HL)` (CB 0E). -/
def execRrcAtHl (s : State) : Host.Outcome State Fault Refusal := rotHl .rrc s
/-- R306 `RRC A` (CB 0F). -/
def execRrcA (s : State) : Host.Outcome State Fault Refusal := rotReg .rrc .a s
/-- R308 `RL B` (CB 10). -/
def execRlB (s : State) : Host.Outcome State Fault Refusal := rotReg .rl .b s
/-- R308 `RL C` (CB 11). -/
def execRlC (s : State) : Host.Outcome State Fault Refusal := rotReg .rl .c s
/-- R308 `RL D` (CB 12). -/
def execRlD (s : State) : Host.Outcome State Fault Refusal := rotReg .rl .d s
/-- R308 `RL E` (CB 13). -/
def execRlE (s : State) : Host.Outcome State Fault Refusal := rotReg .rl .e s
/-- R308 `RL H` (CB 14). -/
def execRlH (s : State) : Host.Outcome State Fault Refusal := rotReg .rl .h s
/-- R308 `RL L` (CB 15). -/
def execRlL (s : State) : Host.Outcome State Fault Refusal := rotReg .rl .l s
/-- R309 `RL (HL)` (CB 16). -/
def execRlAtHl (s : State) : Host.Outcome State Fault Refusal := rotHl .rl s
/-- R308 `RL A` (CB 17). -/
def execRlA (s : State) : Host.Outcome State Fault Refusal := rotReg .rl .a s
/-- R310 `RR B` (CB 18). -/
def execRrB (s : State) : Host.Outcome State Fault Refusal := rotReg .rr .b s
/-- R310 `RR C` (CB 19). -/
def execRrC (s : State) : Host.Outcome State Fault Refusal := rotReg .rr .c s
/-- R310 `RR D` (CB 1A). -/
def execRrD (s : State) : Host.Outcome State Fault Refusal := rotReg .rr .d s
/-- R310 `RR E` (CB 1B). -/
def execRrE (s : State) : Host.Outcome State Fault Refusal := rotReg .rr .e s
/-- R310 `RR H` (CB 1C). -/
def execRrH (s : State) : Host.Outcome State Fault Refusal := rotReg .rr .h s
/-- R310 `RR L` (CB 1D). -/
def execRrL (s : State) : Host.Outcome State Fault Refusal := rotReg .rr .l s
/-- R311 `RR (HL)` (CB 1E). -/
def execRrAtHl (s : State) : Host.Outcome State Fault Refusal := rotHl .rr s
/-- R310 `RR A` (CB 1F). -/
def execRrA (s : State) : Host.Outcome State Fault Refusal := rotReg .rr .a s
/-- R312 `SLA B` (CB 20). -/
def execSlaB (s : State) : Host.Outcome State Fault Refusal := rotReg .sla .b s
/-- R312 `SLA C` (CB 21). -/
def execSlaC (s : State) : Host.Outcome State Fault Refusal := rotReg .sla .c s
/-- R312 `SLA D` (CB 22). -/
def execSlaD (s : State) : Host.Outcome State Fault Refusal := rotReg .sla .d s
/-- R312 `SLA E` (CB 23). -/
def execSlaE (s : State) : Host.Outcome State Fault Refusal := rotReg .sla .e s
/-- R312 `SLA H` (CB 24). -/
def execSlaH (s : State) : Host.Outcome State Fault Refusal := rotReg .sla .h s
/-- R312 `SLA L` (CB 25). -/
def execSlaL (s : State) : Host.Outcome State Fault Refusal := rotReg .sla .l s
/-- R313 `SLA (HL)` (CB 26). -/
def execSlaAtHl (s : State) : Host.Outcome State Fault Refusal := rotHl .sla s
/-- R312 `SLA A` (CB 27). -/
def execSlaA (s : State) : Host.Outcome State Fault Refusal := rotReg .sla .a s
/-- R314 `SRA B` (CB 28). -/
def execSraB (s : State) : Host.Outcome State Fault Refusal := rotReg .sra .b s
/-- R314 `SRA C` (CB 29). -/
def execSraC (s : State) : Host.Outcome State Fault Refusal := rotReg .sra .c s
/-- R314 `SRA D` (CB 2A). -/
def execSraD (s : State) : Host.Outcome State Fault Refusal := rotReg .sra .d s
/-- R314 `SRA E` (CB 2B). -/
def execSraE (s : State) : Host.Outcome State Fault Refusal := rotReg .sra .e s
/-- R314 `SRA H` (CB 2C). -/
def execSraH (s : State) : Host.Outcome State Fault Refusal := rotReg .sra .h s
/-- R314 `SRA L` (CB 2D). -/
def execSraL (s : State) : Host.Outcome State Fault Refusal := rotReg .sra .l s
/-- R315 `SRA (HL)` (CB 2E). -/
def execSraAtHl (s : State) : Host.Outcome State Fault Refusal := rotHl .sra s
/-- R314 `SRA A` (CB 2F). -/
def execSraA (s : State) : Host.Outcome State Fault Refusal := rotReg .sra .a s
/-- R318 `SWAP B` (CB 30). -/
def execSwapB (s : State) : Host.Outcome State Fault Refusal := rotReg .swap .b s
/-- R318 `SWAP C` (CB 31). -/
def execSwapC (s : State) : Host.Outcome State Fault Refusal := rotReg .swap .c s
/-- R318 `SWAP D` (CB 32). -/
def execSwapD (s : State) : Host.Outcome State Fault Refusal := rotReg .swap .d s
/-- R318 `SWAP E` (CB 33). -/
def execSwapE (s : State) : Host.Outcome State Fault Refusal := rotReg .swap .e s
/-- R318 `SWAP H` (CB 34). -/
def execSwapH (s : State) : Host.Outcome State Fault Refusal := rotReg .swap .h s
/-- R318 `SWAP L` (CB 35). -/
def execSwapL (s : State) : Host.Outcome State Fault Refusal := rotReg .swap .l s
/-- R319 `SWAP (HL)` (CB 36). -/
def execSwapAtHl (s : State) : Host.Outcome State Fault Refusal := rotHl .swap s
/-- R318 `SWAP A` (CB 37). -/
def execSwapA (s : State) : Host.Outcome State Fault Refusal := rotReg .swap .a s
/-- R316 `SRL B` (CB 38). -/
def execSrlB (s : State) : Host.Outcome State Fault Refusal := rotReg .srl .b s
/-- R316 `SRL C` (CB 39). -/
def execSrlC (s : State) : Host.Outcome State Fault Refusal := rotReg .srl .c s
/-- R316 `SRL D` (CB 3A). -/
def execSrlD (s : State) : Host.Outcome State Fault Refusal := rotReg .srl .d s
/-- R316 `SRL E` (CB 3B). -/
def execSrlE (s : State) : Host.Outcome State Fault Refusal := rotReg .srl .e s
/-- R316 `SRL H` (CB 3C). -/
def execSrlH (s : State) : Host.Outcome State Fault Refusal := rotReg .srl .h s
/-- R316 `SRL L` (CB 3D). -/
def execSrlL (s : State) : Host.Outcome State Fault Refusal := rotReg .srl .l s
/-- R317 `SRL (HL)` (CB 3E). -/
def execSrlAtHl (s : State) : Host.Outcome State Fault Refusal := rotHl .srl s
/-- R316 `SRL A` (CB 3F). -/
def execSrlA (s : State) : Host.Outcome State Fault Refusal := rotReg .srl .a s

end Sys2Proof.Machine
end

