-- ==== Sys2Proof/Machine/System.lean ====
section
/-! DEFINITION. NOP, HALT, STOP, DI, EI, the CB prefix and the unimplemented opcodes (spec/48_system.md R380 to R390). First the shared operations, one per
rule, each the schedule the rule gives (M1, M2, …); then one definition per instruction. -/

namespace Sys2Proof.Machine

/-- R380 `NOP`. -/
def nop : Seg := perform [idle]

/-- R382: the effect of HALT. -/
def State.halt (s : State) : State :=
  if s.ime then { s with halted := true }
  else if s.pending ≠ 0 then { s with haltBug := true }
  else { s with halted := true }

/-- R382 `HALT`. -/
def halt : Seg := perform [act State.halt]

/-- R384 `STOP`: the byte at PC is skipped unread. -/
def stop : Seg := perform [act fun s => { s.setPc (s.pc + 1) with stopped := true }]

/-- R386 `DI`. -/
def di : Seg := perform [act fun s => { s with ime := false }]

/-- R387 `EI`. -/
def ei : Seg := perform [act fun s => { s with delay := true }]

/-- R149: the CB byte selects the CB routine, and the cycle count becomes the CB entry's. -/
def State.dispatchCb (s : State) (cbop : Byte) : State :=
  (s.onCont fun c => { c with routine := .instr (decodeCb cbop), cbop := some cbop }).addCycles (declaredCb cbop - 2)

/-- R388 `PREFIX CB`: M2 fetches the CB byte and dispatches; the CB routine's M2 action follows in the same step
(`runInstr`). -/
def prefixCB : Seg := perform [idle, fetchInto fun v s => s.dispatchCb v]

/-- R390: the diagnostic of an unimplemented opcode, its opcode and the address it was read from. -/
def undef : Seg := perform [withOpcode fun op a => act fun s => { s with diagLog := s.diagLog ++ [(op, a)] }]

/-! ### The instructions -/

/-- R380 `NOP` (0x00). -/
def execNop (s : State) : Host.Outcome State Fault Refusal := nop s
/-- R384 `STOP` (0x10). -/
def execStop (s : State) : Host.Outcome State Fault Refusal := stop s
/-- R382 `HALT` (0x76). -/
def execHalt (s : State) : Host.Outcome State Fault Refusal := halt s
/-- R388 `PREFIX CB` (0xCB). -/
def execPrefixCB (s : State) : Host.Outcome State Fault Refusal := prefixCB s
/-- R390 `undefined opcode` (0xD3). -/
def execUndefD3 (s : State) : Host.Outcome State Fault Refusal := undef s
/-- R390 `undefined opcode` (0xDB). -/
def execUndefDB (s : State) : Host.Outcome State Fault Refusal := undef s
/-- R390 `undefined opcode` (0xDD). -/
def execUndefDD (s : State) : Host.Outcome State Fault Refusal := undef s
/-- R390 `undefined opcode` (0xE3). -/
def execUndefE3 (s : State) : Host.Outcome State Fault Refusal := undef s
/-- R390 `undefined opcode` (0xE4). -/
def execUndefE4 (s : State) : Host.Outcome State Fault Refusal := undef s
/-- R390 `undefined opcode` (0xEB). -/
def execUndefEB (s : State) : Host.Outcome State Fault Refusal := undef s
/-- R390 `undefined opcode` (0xEC). -/
def execUndefEC (s : State) : Host.Outcome State Fault Refusal := undef s
/-- R390 `undefined opcode` (0xED). -/
def execUndefED (s : State) : Host.Outcome State Fault Refusal := undef s
/-- R386 `DI` (0xF3). -/
def execDi (s : State) : Host.Outcome State Fault Refusal := di s
/-- R390 `undefined opcode` (0xF4). -/
def execUndefF4 (s : State) : Host.Outcome State Fault Refusal := undef s
/-- R387 `EI` (0xFB). -/
def execEi (s : State) : Host.Outcome State Fault Refusal := ei s
/-- R390 `undefined opcode` (0xFC). -/
def execUndefFC (s : State) : Host.Outcome State Fault Refusal := undef s
/-- R390 `undefined opcode` (0xFD). -/
def execUndefFD (s : State) : Host.Outcome State Fault Refusal := undef s

end Sys2Proof.Machine
end

