-- ==== Sys2Proof/Machine/Sequencer.lean ====
section
/-! DEFINITION. The sequencer: the one transition of the block, a step of one M-cycle (spec/40_sequencer.md R141), with
its three phases: the inputs, the instruction boundary (R142 to R148), and the segment (R149, R150). -/

namespace Sys2Proof.Machine

/-! ### Phase (a): the inputs of the step -/

/-- What the host presents for this step (R406, R480); nothing presented is no reset and IRQ 0. -/
def State.input (s : State) : HostInput :=
  match s.inputs with
  | [] => ⟨false, 0⟩
  | i :: _ => i

/-- A reset asserted before this step takes effect (R451), between steps. -/
def State.takeReset (s : State) : State := if s.input.reset then s.resetBlock else s

/-- `IF <- IF | (IRQ & 0x1F)` (R406), the input used up and the step counted. -/
def State.sample (s : State) : State :=
  { s.takeReset with
    ifl := s.takeReset.ifl ||| s.input.irq
    inputs := s.inputs.tail
    clock := s.clock + 1 }

/-! ### Phase (b): the instruction boundary -/

/-- How a boundary ends: the step is idle, or it goes on to run a segment. -/
inductive Boundary where
  | idle (s : State)
  | go (s : State)

/-- The interrupt check (R143): IME is set and an enabled interrupt is pending. -/
def State.accepts (s : State) : Bool := s.ime && decide (s.pending ≠ 0)

/-- The EI delay at a normal fetch (R147). -/
def State.takeDelay (s : State) : State := if s.delay then { s with delay := false, ime := true } else s

/-- PC after the opcode fetch (R146): incremented, except where `haltBug` is set, which is cleared. -/
def State.passOpcode (s : State) : State := if s.haltBug then { s with haltBug := false } else s.setPc (s.pc + 1)

/-- Dispatch (R148): a new continuation for the entry of the fetched byte, and its declared count. -/
def State.dispatch (s : State) (opAddr : Word) (op : Byte) : State :=
  { s with
    cont := some { Continuation.fresh (.instr (decodeBase op)) with opAddr := some opAddr, op := some op }
    cyclesLeft := declaredBase op }

/-- The opcode fetch (R146 to R148). -/
def State.fetch (s : State) : State :=
  ((s.noteRead s.pc).passOpcode.takeDelay).dispatch s.pc (s.peek s.pc)

/-- The interrupt check and the fetch (R143, R144, R146). -/
def State.start (s : State) : State := if s.accepts then s.beginInterrupt else s.fetch

/-- The Halted check (R142). -/
def State.checkHalted (s : State) : Boundary :=
  if s.halted then
    if s.pending ≠ 0 then .go { s with halted := false }.start else .idle s
  else .go s.start

/-- The boundary (R142): the Stopped check first, then the Halted check. -/
def State.boundary (s : State) : Boundary :=
  if s.stopped then
    if s.stopWakes then { s with stopped := false }.checkHalted else .idle s
  else s.checkHalted

/-! ### Phase (c): the segment -/

/-- The CB routine the prefix routine has just dispatched to (R149). -/
def cbDispatched (i : Instr) (s : State) : Option Instr :=
  if i = .prefixCB then
    match s.cont with
    | some c =>
      match c.routine with
      | .instr j => if j = .prefixCB then none else some j
      | .isr => none
    | none => none
  else none

/-- Run the segment of an instruction; after the CB byte fetch, the CB routine's M2 action "runs in the same step"
(R149). -/
def runInstr (i : Instr) : Seg := fun s =>
  andThen (exec i s) fun t =>
    match cbDispatched i t with
    | some j => exec j t
    | none => .next t

/-- Run the segment of a routine. -/
def runRoutine (r : Routine) : Seg :=
  match r with
  | .isr => acceptInterrupt
  | .instr i => runInstr i

/-- `cont.k <- cont.k + 1`, and the continuation is destroyed where no cycle is left (R141, R150). -/
def State.finish (s : State) : State :=
  if s.cyclesLeft = 0 then { s with cont := none } else s.onCont fun c => { c with k := c.k + 1 }

/-- Phase (c) (R141, R150). -/
def runSegment : Seg := fun s =>
  match s.cont with
  | none => .fault .noContinuation
  | some c => andThen (runRoutine c.routine { s with cyclesLeft := s.cyclesLeft - 1 }) fun t => .next t.finish

/-! ### The step -/

/-- One step (R141). -/
def stepCycle : Seg := fun s =>
  if s.sample.cyclesLeft = 0 then
    match s.sample.boundary with
    | .idle t => .next t
    | .go t => runSegment t
  else runSegment s.sample

/-! ### Placing code -/

/-- Memory with bytes stored at consecutive addresses, wrapping at 0xFFFF (R75). -/
def storeBytes (m : List Host.Cell) (a : Word) : List Byte → List Host.Cell
  | [] => m
  | v :: vs => storeBytes (Memory.set m a.toNat v) (a + 1) vs

/-- The state at an instruction boundary, awake, whose next fetch reads the given bytes at PC. -/
def State.placeCode (s : State) (code : List Byte) : State :=
  { s with
    mem := storeBytes s.mem s.pc code
    cyclesLeft := 0
    cont := none
    halted := false
    stopped := false }

end Sys2Proof.Machine
end

