-- ==== Sys2Proof/Machine/Step.lean ====
section
/-! DEFINITION. The step of the machine, one M-cycle (spec/40_sequencer.md R141), and the placing of one instruction
where the next step fetches. -/

namespace Sys2Proof.Machine

/-- One step. -/
def step (s : State) : Host.Outcome State Fault Refusal := stepCycle s

/-- The instruction of a table word, placed at PC with the machine at an instruction boundary, so that the next step
fetches it (notes/assumptions/12.md). The words are numbered as `decodeTableWord` reads them. -/
def State.withFetchWord (s : State) (nbits w : Nat) : State := s.placeCode (tableBytes nbits w)

end Sys2Proof.Machine
end

