-- ==== Sys2Proof/Safety.lean ====
section
/-! DEFINITION. The terms the statements use: the fields of an encoding as the rules of spec/30_encoding.md number them,
where a state stands in a routine and which locals it holds, what each instruction writes (its frame), and the invariant
`Inv` of the machine's states. No definition of the machine uses this file. -/

namespace Sys2Proof

open Sys2Proof.Machine

/-! ### The operand fields (R104 to R110), as the rules of the families write them -/

/-- The selector value of a register (R104). -/
def Reg8.field : Reg8 → Byte
  | .b => 0 | .c => 1 | .d => 2 | .e => 3 | .h => 4 | .l => 5 | .a => 7

/-- The selector value of a pair (R105). -/
def Pair16.field : Pair16 → Byte
  | .bc => 0 | .de => 1 | .hl => 2 | .sp => 3

/-- The selector value of BC or DE (R205, R206). -/
def IndPair.field : IndPair → Byte
  | .bc => 0 | .de => 1

/-- The selector value of a pushed pair (R106). -/
def StackPair.field : StackPair → Byte
  | .bc => 0 | .de => 1 | .hl => 2 | .af => 3

/-- The selector value of a condition (R107). -/
def Cond.field : Cond → Byte
  | .nz => 0 | .z => 1 | .nc => 2 | .c => 3

/-- The field `ooo` of an accumulator operation (R109). -/
def AluOp.field : AluOp → Byte
  | .add => 0 | .adc => 1 | .sub => 2 | .sbc => 3 | .and => 4 | .xor => 5 | .or => 6 | .cp => 7

/-- The field `y` of a rotate or shift (R110). -/
def RotOp.field : RotOp → Byte
  | .rlc => 0 | .rrc => 1 | .rl => 2 | .rr => 3 | .sla => 4 | .sra => 5 | .swap => 6 | .srl => 7

/-- A bit index or an RST number as a field value (R102, R108). -/
def Oct.field (b : Oct) : Byte := BitVec.ofNat 8 b.toNat

/-- The opcode of each unimplemented entry (R116). -/
def Undef.byte : Undef → Byte
  | .xD3 => 0xD3 | .xDB => 0xDB | .xDD => 0xDD | .xE3 => 0xE3 | .xE4 => 0xE4 | .xEB => 0xEB
  | .xEC => 0xEC | .xED => 0xED | .xF4 => 0xF4 | .xFC => 0xFC | .xFD => 0xFD

/-- `i` has the opcode `o`, takes `n` M-cycles, and `m` where it is conditional and its condition holds. -/
abbrev Instr.hasEntry (i : Instr) (o : Opcode) (n m : Nat) : Prop := i.opcode = o ∧ i.cycles = n ∧ i.takenCycles = m

/-- What each condition asks of the flags (R107). -/
def Cond.holds : Cond → Flags → Prop
  | .nz, f => f.z = false
  | .z, f => f.z = true
  | .nc, f => f.c = false
  | .c, f => f.c = true

/-! ### Where a state stands -/

namespace Machine

/-- A routine is in flight and its next segment is `k`, that is M(k+1) (R150). -/
abbrev State.standsAt (s : State) (k : Nat) : Prop := s.cont.map (·.k) = some k

/-- The local `tmp` holds `v`. -/
abbrev State.holdsTmp (s : State) (v : Byte) : Prop := s.cont.bind (·.tmp) = some v

/-- The local `lo` holds `v`. -/
abbrev State.holdsLo (s : State) (v : Byte) : Prop := s.cont.bind (·.lo) = some v

/-- The local `hi` holds `v`. -/
abbrev State.holdsHi (s : State) (v : Byte) : Prop := s.cont.bind (·.hi) = some v

/-- After `fetch8()` (R9): the byte at PC is read, PC is incremented. -/
def State.fetched (s : State) : State := (s.noteRead s.pc).setPc (s.pc + 1)

/-- The step from `s` makes an opcode fetch: it is a boundary, awake, and no interrupt is accepted (R142 to R146). -/
abbrev State.fetchesNext (s : State) : Prop :=
  s.sample.cyclesLeft = 0 ∧ s.sample.stopped = false ∧ s.sample.halted = false ∧ s.sample.accepts = false

/-- The step from `s` starts something: it is a boundary that is awake, or that leaves Stopped or Halted (R142). -/
abbrev State.goesOn (s : State) : Prop :=
  s.sample.cyclesLeft = 0 ∧ (s.sample.stopped = true → s.sample.stopWakes = true) ∧
    (s.sample.halted = true → s.sample.pending ≠ 0)

/-- The step from `s` is idle (R155): it is a boundary that stays Stopped or Halted (R142). -/
abbrev State.idles (s : State) : Prop :=
  s.sample.cyclesLeft = 0 ∧ ((s.sample.stopped = true ∧ s.sample.stopWakes = false) ∨
    (s.sample.stopped = false ∧ s.sample.halted = true ∧ s.sample.pending = 0))

/-- The state in which M1 of a fetched instruction runs: after the fetch, with `cyclesLeft` decremented (R150). -/
def State.atFirstSegment (s : State) : State := { s.fetch with cyclesLeft := s.fetch.cyclesLeft - 1 }

/-- The host asserts no reset in the coming steps. -/
abbrev State.noReset (s : State) : Prop := ∀ i ∈ s.inputs, i.reset = false

/-! ### The operands, as the rules define them -/

/-- `v[15:8]`, `v[7:0]` and `(hi << 8) | lo` are what the model's operations on halves give (R8, R31). -/
def HalvesAreTheBytes : Prop :=
  ∀ (v : Word) (hi lo : Byte), highByte v = v.extractLsb' 8 8 ∧ lowByte v = v.extractLsb' 0 8 ∧
    joinBytes hi lo = hi.setWidth 16 <<< 8 ||| lo.setWidth 16

/-- Reading and writing BC, DE, HL and SP in a state: B, D and H are the high halves, C, E and L the low ones (R31, by
the spec's decision D28), a write sets both halves, and every other register keeps its value. -/
def PairsAreTheirHalves : Prop :=
  (∀ (f : RegFile) (v : Word),
    f.pair .bc = f.b.setWidth 16 <<< 8 ||| f.c.setWidth 16 ∧ f.pair .de = f.d.setWidth 16 <<< 8 ||| f.e.setWidth 16 ∧
    f.pair .hl = f.h.setWidth 16 <<< 8 ||| f.l.setWidth 16 ∧ f.pair .sp = f.sp ∧
    f.setPair .bc v = { f with b := v.extractLsb' 8 8, c := v.extractLsb' 0 8 } ∧
    f.setPair .de v = { f with d := v.extractLsb' 8 8, e := v.extractLsb' 0 8 } ∧
    f.setPair .hl v = { f with h := v.extractLsb' 8 8, l := v.extractLsb' 0 8 } ∧ f.setPair .sp v = { f with sp := v }) ∧
  (∀ (s : State) (p : Pair16) (v : Word),
    s.pair p = s.regs.pair p ∧ s.hl = s.regs.pair .hl ∧ s.sp = s.regs.sp ∧
    s.setPair p v = { s with regs := s.regs.setPair p v } ∧ s.setSp v = { s with regs := { s.regs with sp := v } })

/-- Reading and writing BC, DE, HL and AF of the stack operations: A, B, D and H are the high halves, F, C, E and L the
low ones (R31, by the spec's decision D28), with the flags in bits 7 to 4 of F over a low nibble of 0 (R35). -/
def StackPairsAreTheirHalves : Prop :=
  (∀ (f : RegFile) (v : Word),
    f.stackPair .bc = f.b.setWidth 16 <<< 8 ||| f.c.setWidth 16 ∧
    f.stackPair .de = f.d.setWidth 16 <<< 8 ||| f.e.setWidth 16 ∧
    f.stackPair .hl = f.h.setWidth 16 <<< 8 ||| f.l.setWidth 16 ∧
    f.stackPair .af = f.a.setWidth 16 <<< 8 |||
      (BitVec.ofBool f.flags.z ++ BitVec.ofBool f.flags.n ++ BitVec.ofBool f.flags.h ++ BitVec.ofBool f.flags.c ++
        (0 : BitVec 4) : BitVec 8).setWidth 16 ∧
    f.setStackPair .bc v = { f with b := v.extractLsb' 8 8, c := v.extractLsb' 0 8 } ∧
    f.setStackPair .de v = { f with d := v.extractLsb' 8 8, e := v.extractLsb' 0 8 } ∧
    f.setStackPair .hl v = { f with h := v.extractLsb' 8 8, l := v.extractLsb' 0 8 } ∧
    f.setStackPair .af v =
      { f with a := v.extractLsb' 8 8, flags := ⟨v.getLsbD 7, v.getLsbD 6, v.getLsbD 5, v.getLsbD 4⟩ }) ∧
  (∀ (s : State) (q : StackPair) (v : Word), s.setStackPair q v = { s with regs := s.regs.setStackPair q v })

/-! ### What each instruction writes (R36, R37 and the family rules) -/

/-- The two registers of a pair. -/
def pairHalves : Pair16 → List Reg8
  | .bc => [.b, .c] | .de => [.d, .e] | .hl => [.h, .l] | .sp => []

/-- The general registers a POP writes. -/
def stackPairHalves : StackPair → List Reg8
  | .bc => [.b, .c] | .de => [.d, .e] | .hl => [.h, .l] | .af => [.a]

/-- The general registers an instruction writes. -/
def destRegs : Form → List Reg8
  | .ldRegReg dst _ | .ldRegImm dst | .ldRegHl dst => [dst]
  | .ldAInd _ | .ldAAbs | .ldhAImm | .ldAC => [.a]
  | .ldAHlInc | .ldAHlDec => [.a, .h, .l]
  | .ldHlIncA | .ldHlDecA => [.h, .l]
  | .ldPairImm p | .incPair p | .decPair p => pairHalves p
  | .pop q => stackPairHalves q
  | .aluReg op _ | .aluHl op | .aluImm op => if op = .cp then [] else [.a]
  | .incReg r | .decReg r | .rotReg _ r | .resReg _ r | .setReg _ r => [r]
  | .daa | .cpl | .rlca | .rrca | .rla | .rra => [.a]
  | .addHl _ | .ldHlSp => [.h, .l]
  | .nop | .halt | .stop | .di | .ei | .prefixCB | .undef _ | .ldHlReg _ | .ldHlImm | .ldIndA _ | .ldAbsA | .ldhImmA
  | .ldCA | .ldAbsSp | .ldSpHl | .push _ | .incHl | .decHl | .scf | .ccf | .addSp | .rotHl _ | .bitReg _ _ | .bitHl _
  | .resHl _ | .setHl _ | .jp | .jpCc _ | .jpHl | .jr | .jrCc _ | .call | .callCc _ | .rst _ | .ret | .retCc _
  | .reti => []

/-- The instruction writes SP. -/
def writesSp : Form → Bool
  | .ldPairImm p | .incPair p | .decPair p => decide (p = .sp)
  | .ldSpHl | .push _ | .pop _ | .addSp | .call | .callCc _ | .rst _ | .ret | .retCc _ | .reti => true
  | .nop | .halt | .stop | .di | .ei | .prefixCB | .undef _ | .ldRegReg _ _ | .ldRegImm _ | .ldRegHl _ | .ldHlReg _
  | .ldHlImm | .ldAInd _ | .ldIndA _ | .ldAHlInc | .ldAHlDec | .ldHlIncA | .ldHlDecA | .ldAAbs | .ldAbsA | .ldhAImm
  | .ldhImmA | .ldAC | .ldCA | .ldAbsSp | .aluReg _ _ | .aluHl _ | .aluImm _ | .incReg _ | .incHl | .decReg _ | .decHl
  | .daa | .cpl | .scf | .ccf | .addHl _ | .ldHlSp | .rlca | .rrca | .rla | .rra | .rotReg _ _ | .rotHl _ | .bitReg _ _
  | .bitHl _ | .resReg _ _ | .resHl _ | .setReg _ _ | .setHl _ | .jp | .jpCc _ | .jpHl | .jr | .jrCc _ => false

/-- The flags an instruction writes: `true` for each flag that the table of R37 does not mark `-`. -/
def writesFlags : Form → Flags
  | .aluReg _ _ | .aluHl _ | .aluImm _ => ⟨true, true, true, true⟩
  | .incReg _ | .incHl | .decReg _ | .decHl => ⟨true, true, true, false⟩
  | .daa => ⟨true, false, true, true⟩
  | .cpl => ⟨false, true, true, false⟩
  | .scf | .ccf | .addHl _ => ⟨false, true, true, true⟩
  | .addSp | .ldHlSp | .rlca | .rrca | .rla | .rra | .rotReg _ _ | .rotHl _ => ⟨true, true, true, true⟩
  | .bitReg _ _ | .bitHl _ => ⟨true, true, true, false⟩
  | .pop q => if q = .af then ⟨true, true, true, true⟩ else ⟨false, false, false, false⟩
  | .nop | .halt | .stop | .di | .ei | .prefixCB | .undef _ | .ldRegReg _ _ | .ldRegImm _ | .ldRegHl _ | .ldHlReg _
  | .ldHlImm | .ldAInd _ | .ldIndA _ | .ldAHlInc | .ldAHlDec | .ldHlIncA | .ldHlDecA | .ldAAbs | .ldAbsA | .ldhAImm
  | .ldhImmA | .ldAC | .ldCA | .ldPairImm _ | .ldAbsSp | .ldSpHl | .push _ | .incPair _ | .decPair _ | .resReg _ _
  | .resHl _ | .setReg _ _ | .setHl _ | .jp | .jpCc _ | .jpHl | .jr | .jrCc _ | .call | .callCc _ | .rst _ | .ret
  | .retCc _ | .reti => ⟨false, false, false, false⟩

/-- `a`, where the state stands at the segment `k`. -/
def State.atSegment (s : State) (k : Nat) (a : Option Word) : Option Word := if s.standsAt k then a else none

/-- `(hi << 8) | lo` of the locals. -/
def State.localAddr (s : State) : Option Word :=
  match s.cont.bind (·.hi), s.cont.bind (·.lo) with
  | some hi, some lo => some (joinBytes hi lo)
  | _, _ => none

/-- The address the instruction stores to in the segment at which the state stands; none where that segment stores
nothing (the `[W …]` entries of the rules). -/
def storeAddr (f : Form) (s : State) : Option Word :=
  match f with
  | .ldHlReg _ | .ldHlIncA | .ldHlDecA => s.atSegment 1 s.hl
  | .ldIndA p => s.atSegment 1 (s.pair (indPair p))
  | .ldCA => s.atSegment 1 (highPage s.regs.c)
  | .ldHlImm | .incHl | .decHl => s.atSegment 2 s.hl
  | .ldhImmA => s.atSegment 2 ((s.cont.bind (·.tmp)).map highPage)
  | .ldAbsA => s.atSegment 3 s.localAddr
  | .ldAbsSp => (s.atSegment 3 s.localAddr).or (s.atSegment 4 (s.localAddr.map (· + 1)))
  | .rotHl _ | .resHl _ | .setHl _ => s.atSegment 3 s.hl
  | .push _ | .rst _ => (s.atSegment 2 s.sp).or (s.atSegment 3 s.sp)
  | .call | .callCc _ => (s.atSegment 4 s.sp).or (s.atSegment 5 s.sp)
  | .nop | .halt | .stop | .di | .ei | .prefixCB | .undef _ | .ldRegReg _ _ | .ldRegImm _ | .ldRegHl _ | .ldAInd _
  | .ldAHlInc | .ldAHlDec | .ldAAbs | .ldhAImm | .ldAC | .ldPairImm _ | .ldSpHl | .pop _ | .aluReg _ _ | .aluHl _
  | .aluImm _ | .incReg _ | .decReg _ | .daa | .cpl | .scf | .ccf | .addHl _ | .incPair _ | .decPair _ | .addSp
  | .ldHlSp | .rlca | .rrca | .rla | .rra | .rotReg _ _ | .bitReg _ _ | .bitHl _ | .resReg _ _ | .setReg _ _ | .jp
  | .jpCc _ | .jpHl | .jr | .jrCc _ | .ret | .retCc _ | .reti => none

/-- The condition of a conditional instruction (R152). -/
def conditionOf : Form → Option Cond
  | .jrCc cc | .jpCc cc | .callCc cc | .retCc cc => some cc
  | .nop | .halt | .stop | .di | .ei | .prefixCB | .undef _ | .ldRegReg _ _ | .ldRegImm _ | .ldRegHl _ | .ldHlReg _
  | .ldHlImm | .ldAInd _ | .ldIndA _ | .ldAHlInc | .ldAHlDec | .ldHlIncA | .ldHlDecA | .ldAAbs | .ldAbsA | .ldhAImm
  | .ldhImmA | .ldAC | .ldCA | .ldPairImm _ | .ldAbsSp | .ldSpHl | .push _ | .pop _ | .aluReg _ _ | .aluHl _ | .aluImm _
  | .incReg _ | .incHl | .decReg _ | .decHl | .daa | .cpl | .scf | .ccf | .addHl _ | .incPair _ | .decPair _ | .addSp
  | .ldHlSp | .rlca | .rrca | .rla | .rra | .rotReg _ _ | .rotHl _ | .bitReg _ _ | .bitHl _ | .resReg _ _ | .resHl _
  | .setReg _ _ | .setHl _ | .jp | .jpHl | .jr | .call | .rst _ | .ret | .reti => none

/-- How many steps an instruction of the base table takes with these flags (R112, R153). -/
def stepCount (i : Instr) (f : Flags) : Nat :=
  match conditionOf i.form with
  | some cc => if f.cond cc then i.takenCycles else i.cycles
  | none => i.cycles

/-! ### The invariant -/

/-- From the segment `n` on, the local holds a value. -/
def Continuation.heldFrom (c : Continuation) (n : Nat) (v : Option Byte) : Bool := decide (c.k < n) || v.isSome

/-- Every local that the coming segments read has been written (R151). -/
def localsReady (f : Form) (c : Continuation) : Bool :=
  match f with
  | .ldHlImm | .ldhAImm | .ldhImmA | .incHl | .decHl | .jr | .jrCc _ | .addSp | .ldHlSp => c.heldFrom 2 c.tmp
  | .rotHl _ | .resHl _ | .setHl _ => c.heldFrom 3 c.tmp
  | .ldPairImm _ | .pop _ => c.heldFrom 2 c.lo
  | .ldAAbs | .ldAbsA | .ldAbsSp | .jp | .jpCc _ | .call | .callCc _ | .ret | .reti =>
    c.heldFrom 2 c.lo && c.heldFrom 3 c.hi
  | .retCc _ => c.heldFrom 3 c.lo && c.heldFrom 4 c.hi
  | .nop | .halt | .stop | .di | .ei | .prefixCB | .undef _ | .ldRegReg _ _ | .ldRegImm _ | .ldRegHl _ | .ldHlReg _
  | .ldAInd _ | .ldIndA _ | .ldAHlInc | .ldAHlDec | .ldHlIncA | .ldHlDecA | .ldAC | .ldCA | .ldSpHl | .push _
  | .aluReg _ _ | .aluHl _ | .aluImm _ | .incReg _ | .decReg _ | .daa | .cpl | .scf | .ccf | .addHl _ | .incPair _
  | .decPair _ | .rlca | .rrca | .rla | .rra | .rotReg _ _ | .bitReg _ _ | .bitHl _ | .resReg _ _ | .setReg _ _ | .jpHl
  | .rst _ => true

/-- The continuation keeps the opcode it was made for (R46): the base opcode, or the prefix and the CB byte. -/
def Continuation.keepsOpcode (c : Continuation) (i : Instr) : Prop :=
  match i.opcode with
  | .base op => c.op = some op
  | .cb b => c.op = some 0xCB ∧ c.cbop = some b ∧ 2 ≤ c.k

/-- A continuation between two steps, with the cycles left and the pending vector (R42, R45, R46, R152, R153). -/
def Continuation.legal (c : Continuation) (left : Nat) (v : Option IntSource) : Prop :=
  1 ≤ c.k ∧
  match c.routine with
  | .isr => c.k + left = 5 ∧ (c.k ≤ 2 → v.isSome = true)
  | .instr i =>
    (c.k + left = i.cycles ∨ (i.cycles ≤ c.k ∧ c.k + left = i.takenCycles)) ∧
      localsReady i.form c = true ∧ c.keepsOpcode i

/-- What holds between any two steps of the machine. -/
structure Inv (s : State) : Prop where
  /-- The collaborator's memory is in its canonical form. -/
  memoryCanonical : Memory.wf s.mem = true
  /-- "`halted` and `stopped` are never both 1" (R43). -/
  oneWait : ¬(s.halted = true ∧ s.stopped = true)
  /-- "`halted = 1` or `stopped = 1` implies `cyclesLeft = 0`" (R43). -/
  waitsAtBoundary : s.halted = true ∨ s.stopped = true → s.cyclesLeft = 0
  /-- "`haltBug = 1` implies `halted = 0`" (R43); and no interrupt can come before the doubled fetch (R421). -/
  haltBugAwake : s.haltBug = true →
    s.halted = false ∧ s.stopped = false ∧ s.ime = false ∧ s.delay = false ∧ s.cyclesLeft = 0
  /-- Bits 7 to 5 of IE are not stored unless the parameter says so (R39). -/
  ieStoredBits : s.params.ieUpperStored = false → s.ie &&& 0xE0 = 0
  /-- "The continuation exists exactly when `cyclesLeft > 0`" (R46). -/
  contExists : s.cont = none ↔ s.cyclesLeft = 0
  /-- The continuation is at a segment of its routine, with as many cycles left as the rest of the routine takes. -/
  contLegal : ∀ c, s.cont = some c → c.legal s.cyclesLeft s.pendingVector

end Machine

end Sys2Proof
end

