-- ==== Sys2Proof/Certificates/Slice0/Obligations.lean ====
section
/-! DEFINITION. The statements for the provers. Each says which rules of spec/ it formalises; OBLIGATIONS.json lists
them. `s.standsAt k` says that a routine is in flight and its next segment is M(k+1); `s.fetched` is the state after
`fetch8()` (Sys2Proof/Safety.lean). -/

section Statements

open Sys2Proof Sys2Proof.Machine

/-! ### Encoding and decoding -/

/-- Rests on R100, R103 and R114 (R103 is the spec's own derivation): the bytes of every well-formed instruction,
whatever follows them, decode to that instruction with every operand byte, and leave what follows. -/
def Obligations.DecodeOfEncodeIsTheInstruction : Prop :=
  ∀ (c : Code) (rest : List Byte), c.wf = true → decode (encode c ++ rest) = .ok (c, rest)

/-- Rests on R103 (the spec's own derivation), R115 and R118: what decodes is the encoding of what it decodes to; no
two byte strings mean one instruction. -/
def Obligations.EncodeOfDecodeIsTheBytes : Prop :=
  ∀ (bytes rest : List Byte) (c : Code), decode bytes = .ok (c, rest) → c.wf = true ∧ encode c ++ rest = bytes

/-- R111, R113, R115: the two tables and the instructions' opcodes are inverse to each other. -/
def Obligations.OpcodeTablesNameEveryInstructionOnce : Prop :=
  (∀ op, (decodeBase op).opcode = .base op) ∧ (∀ b, (decodeCb b).opcode = .cb b) ∧ (∀ i : Instr, i.opcode.instr = i)

/-- R111, R113: words written out from the maps decode to the instructions they stand for. -/
def Obligations.WordsOfTheMapsDecode : Prop :=
  decode [0x41] = .ok (⟨.ldBC, []⟩, []) ∧ decode [0x3E, 0x05] = .ok (⟨.ldAN8, [0x05]⟩, []) ∧
  decode [0x08, 0x00, 0xC1] = .ok (⟨.ldAtN16Sp, [0x00, 0xC1]⟩, []) ∧ decode [0x9C] = .ok (⟨.sbcAH, []⟩, []) ∧
  decode [0x29] = .ok (⟨.addHlHl, []⟩, []) ∧ decode [0x17] = .ok (⟨.rla, []⟩, []) ∧
  decode [0xCB, 0x7C] = .ok (⟨.bit7H, []⟩, []) ∧ decode [0xCB, 0x36] = .ok (⟨.swapAtHl, []⟩, []) ∧
  decode [0xDC, 0x00, 0x20] = .ok (⟨.callCN16, [0x00, 0x20]⟩, []) ∧ decode [0x10, 0x00] = .ok (⟨.stop, [0x00]⟩, []) ∧
  decode [0xD3] = .ok (⟨.undefD3, []⟩, [])

/-! ### Memory and the bus -/

/-- R70, R72, R86: on memory, a read returns what was written there; a write changes what is read at no other address
(a device apart, whose answers may depend on the history). -/
def Obligations.MemoryReadsWhatWasWritten : Prop :=
  ∀ (s : State) (a : Word) (v : Byte),
    (Memory.wf s.mem = true → a ≠ 0xFF0F → a ≠ 0xFFFF → s.handler a = some .ram → (s.memWrite a v).peek a = v) ∧
    (∀ b, b ≠ a → s.handler b ≠ some .device → (s.memWrite a v).peek b = s.peek b)

/-- Rests on R73 (the spec's decision D11) and on the read and write rules R39 (decision D10), R40: the block serves
0xFF0F and 0xFFFF itself, and no other address; what it serves does not reach the bus. -/
def Obligations.BlockDecodesTwoAddresses : Prop :=
  ∀ (s : State) (a : Word) (v : Byte),
    (s.peek 0xFF0F = 0xE0 ||| s.ifl.setWidth 8 ∧ (s.memWrite 0xFF0F v).ifl = (v &&& 0x1F).setWidth 5 ∧
      (s.memWrite 0xFF0F v).ie = s.ie) ∧
    (s.peek 0xFFFF = (if s.params.ieUpperStored then s.ie else s.ie &&& 0x1F) ∧
      (s.memWrite 0xFFFF v).ie = (if s.params.ieUpperStored then v else v &&& 0x1F) ∧
      (s.memWrite 0xFFFF v).ifl = s.ifl) ∧
    (a = 0xFF0F ∨ a = 0xFFFF →
      (s.memWrite a v).mem = s.mem ∧
      (s.memWrite a v).busLog.filter BusEvent.isExternal = s.busLog.filter BusEvent.isExternal ∧
      (s.noteRead a).busLog.filter BusEvent.isExternal = s.busLog.filter BusEvent.isExternal) ∧
    (a ≠ 0xFF0F → a ≠ 0xFFFF →
      s.peek a = s.busAnswer a ∧ (s.memWrite a v).ie = s.ie ∧ (s.memWrite a v).ifl = s.ifl ∧
      (s.memWrite a v).busLog.filter BusEvent.isExternal = ⟨s.clock, .write, a, v⟩ :: s.busLog.filter BusEvent.isExternal)

/-- R70: the first handler that accepts an address serves it; where none does, a read yields 0xFF and a write is a
no-op. -/
def Obligations.FirstAcceptingHandlerServes : Prop :=
  ∀ (s : State) (a : Word) (v : Byte), a ≠ 0xFF0F → a ≠ 0xFFFF →
    (∀ before r after, s.busMap = before ++ r :: after → (∀ q ∈ before, q.accepts a = false) → r.accepts a = true →
      s.handler a = some r.kind) ∧
    ((∀ r ∈ s.busMap, r.accepts a = false) →
      s.peek a = 0xFF ∧ (s.memWrite a v).mem = s.mem ∧ (s.memWrite a v).ie = s.ie ∧ (s.memWrite a v).ifl = s.ifl)

/-- R85 (the spec's own derivation): at most one bus transaction per step; `busLog`, the record of the transactions, is
the model's own (notes/assumptions/10.md). -/
def Obligations.AtMostOneBusTransactionPerStep : Prop :=
  ∀ s t : State, step s = .next t → t.busLog = s.busLog ∨ ∃ e, t.busLog = e :: s.busLog

/-! ### Computations -/

/-- The 8-bit add and subtract of R245 in integer arithmetic: the result, Z and N of its pseudocode, and H and C as the
carries and borrows of the sentence that R245 marks "Equivalently [derived: from this rule]". -/
def Obligations.AddAndSubtractCarryIntoTheFlags : Prop :=
  ∀ (a b : Byte) (cin : Bool),
    ((add8 a b cin).1.toNat = (a.toNat + b.toNat + cin.toNat) % 256 ∧
      (add8 a b cin).2 = ⟨decide ((add8 a b cin).1 = 0), false,
        decide (0xF < a.toNat % 16 + b.toNat % 16 + cin.toNat), decide (0xFF < a.toNat + b.toNat + cin.toNat)⟩) ∧
    (((sub8 a b cin).1.toNat : Int) = ((a.toNat : Int) - b.toNat - cin.toNat) % 256 ∧
      (sub8 a b cin).2 = ⟨decide ((sub8 a b cin).1 = 0), true,
        decide (((a.toNat % 16 : Nat) : Int) - (b.toNat % 16 : Nat) - cin.toNat < 0),
        decide ((a.toNat : Int) - b.toNat - cin.toNat < 0)⟩)

/-- R321: the rotate function bit by bit, and the flags of the CB forms. -/
def Obligations.RotateMovesEveryBit : Prop :=
  ∀ (v : Byte) (c : Bool) (i : Fin 8),
    ((rot .rlc v c).1.getLsbD i = v.getLsbD ((i + 7) % 8) ∧ (rot .rlc v c).2 = v.getLsbD 7) ∧
    ((rot .rrc v c).1.getLsbD i = v.getLsbD ((i + 1) % 8) ∧ (rot .rrc v c).2 = v.getLsbD 0) ∧
    ((rot .rl v c).1.getLsbD i = (if i = 0 then c else v.getLsbD (i - 1)) ∧ (rot .rl v c).2 = v.getLsbD 7) ∧
    ((rot .rr v c).1.getLsbD i = (if i = 7 then c else v.getLsbD (i + 1)) ∧ (rot .rr v c).2 = v.getLsbD 0) ∧
    ((rot .sla v c).1.getLsbD i = (if i = 0 then false else v.getLsbD (i - 1)) ∧ (rot .sla v c).2 = v.getLsbD 7) ∧
    ((rot .sra v c).1.getLsbD i = (if i = 7 then v.getLsbD 7 else v.getLsbD (i + 1)) ∧ (rot .sra v c).2 = v.getLsbD 0) ∧
    ((rot .swap v c).1.getLsbD i = v.getLsbD ((i + 4) % 8) ∧ (rot .swap v c).2 = false) ∧
    ((rot .srl v c).1.getLsbD i = (if i = 7 then false else v.getLsbD (i + 1)) ∧ (rot .srl v c).2 = v.getLsbD 0) ∧
    (∀ (op : RotOp) (f : Flags),
      rotCb op v f = ((rot op v f.c).1, ⟨decide ((rot op v f.c).1 = 0), false, false, (rot op v f.c).2⟩))

/-- What R262 and R245 come to on BCD bytes: after the ADD of two BCD bytes it leaves the BCD sum, after the SUB the
BCD difference, each with the decimal carry or borrow. -/
def Obligations.DaaLeavesTheDecimalResult : Prop :=
  let bcd : Nat → Byte := fun n => BitVec.ofNat 8 (n / 10 * 16 + n % 10)
  ∀ x y : Nat, x < 100 → y < 100 →
    (daa8 (add8 (bcd x) (bcd y) false).1 (add8 (bcd x) (bcd y) false).2).1 = bcd ((x + y) % 100) ∧
    (daa8 (add8 (bcd x) (bcd y) false).1 (add8 (bcd x) (bcd y) false).2).2.c = decide (100 ≤ x + y) ∧
    (daa8 (sub8 (bcd x) (bcd y) false).1 (sub8 (bcd x) (bcd y) false).2).1 = bcd ((x + 100 - y) % 100) ∧
    (daa8 (sub8 (bcd x) (bcd y) false).1 (sub8 (bcd x) (bcd y) false).2).2.c = decide (x < y)

/-! ### The instructions: encoding, cycles, and what each segment leaves -/

/-- R200 to R204. -/
def Obligations.RegisterAndHlLoads : Prop :=
  (∀ dst src : Reg8,
    (Instr.ofLdRegReg dst src).hasEntry (.base (0x40 + 8 * dst.field + src.field)) 1 1 ∧
    ∀ s : State, s.standsAt 0 → exec (.ofLdRegReg dst src) s = .next (s.setReg dst (s.reg src))) ∧
  (∀ dst : Reg8,
    (Instr.ofLdRegImm dst).hasEntry (.base (0x06 + 8 * dst.field)) 2 2 ∧
    ∀ s : State, (s.standsAt 0 → exec (.ofLdRegImm dst) s = .next s) ∧
      (s.standsAt 1 → exec (.ofLdRegImm dst) s = .next (s.fetched.setReg dst (s.peek s.pc)))) ∧
  (∀ dst : Reg8,
    (Instr.ofLdRegHl dst).hasEntry (.base (0x46 + 8 * dst.field)) 2 2 ∧
    ∀ s : State, (s.standsAt 0 → exec (.ofLdRegHl dst) s = .next s) ∧
      (s.standsAt 1 → exec (.ofLdRegHl dst) s = .next ((s.noteRead s.hl).setReg dst (s.peek s.hl)))) ∧
  (∀ src : Reg8,
    (Instr.ofLdHlReg src).hasEntry (.base (0x70 + src.field)) 2 2 ∧
    ∀ s : State, (s.standsAt 0 → exec (.ofLdHlReg src) s = .next s) ∧
      (s.standsAt 1 → exec (.ofLdHlReg src) s = .next (s.memWrite s.hl (s.reg src)))) ∧
  (Instr.ldAtHlN8.hasEntry (.base 0x36) 3 3 ∧
    ∀ s : State, (s.standsAt 0 → exec .ldAtHlN8 s = .next s) ∧
      (s.standsAt 1 → exec .ldAtHlN8 s = .next (s.fetched.setTmp (s.peek s.pc))) ∧
      (∀ v, s.standsAt 2 → s.holdsTmp v → exec .ldAtHlN8 s = .next (s.memWrite s.hl v)))

/-- R205 to R210. -/
def Obligations.AccumulatorLoadsThroughPairs : Prop :=
  (∀ p : IndPair,
    (Instr.ofLdAInd p).hasEntry (.base (0x0A + 16 * p.field)) 2 2 ∧
    (Instr.ofLdIndA p).hasEntry (.base (0x02 + 16 * p.field)) 2 2 ∧
    ∀ s : State, (s.standsAt 0 → exec (.ofLdAInd p) s = .next s ∧ exec (.ofLdIndA p) s = .next s) ∧
      (s.standsAt 1 →
        exec (.ofLdAInd p) s =
          .next ((s.noteRead (s.pair (indPair p))).setReg .a (s.peek (s.pair (indPair p)))) ∧
        exec (.ofLdIndA p) s = .next (s.memWrite (s.pair (indPair p)) s.regs.a))) ∧
  Instr.ldAAtHlInc.hasEntry (.base 0x2A) 2 2 ∧ Instr.ldAAtHlDec.hasEntry (.base 0x3A) 2 2 ∧
  Instr.ldAtHlIncA.hasEntry (.base 0x22) 2 2 ∧ Instr.ldAtHlDecA.hasEntry (.base 0x32) 2 2 ∧
  ∀ s : State,
    (s.standsAt 0 → exec .ldAAtHlInc s = .next s ∧ exec .ldAAtHlDec s = .next s ∧ exec .ldAtHlIncA s = .next s ∧
      exec .ldAtHlDecA s = .next s) ∧
    (s.standsAt 1 →
      exec .ldAAtHlInc s = .next (((s.noteRead s.hl).setReg .a (s.peek s.hl)).setPair .hl (s.hl + 1)) ∧
      exec .ldAAtHlDec s = .next (((s.noteRead s.hl).setReg .a (s.peek s.hl)).setPair .hl (s.hl - 1)) ∧
      exec .ldAtHlIncA s = .next ((s.memWrite s.hl s.regs.a).setPair .hl (s.hl + 1)) ∧
      exec .ldAtHlDecA s = .next ((s.memWrite s.hl s.regs.a).setPair .hl (s.hl - 1)))

/-- R211 to R216. -/
def Obligations.AbsoluteAndHighPageLoads : Prop :=
  Instr.ldAAtN16.hasEntry (.base 0xFA) 4 4 ∧ Instr.ldAtN16A.hasEntry (.base 0xEA) 4 4 ∧
  Instr.ldhAAtN8.hasEntry (.base 0xF0) 3 3 ∧ Instr.ldhAtN8A.hasEntry (.base 0xE0) 3 3 ∧
  Instr.ldAAtC.hasEntry (.base 0xF2) 2 2 ∧ Instr.ldAtCA.hasEntry (.base 0xE2) 2 2 ∧
  (∀ i ∈ [Instr.ldAAtN16, .ldAtN16A, .ldhAAtN8, .ldhAtN8A, .ldAAtC, .ldAtCA], ∀ s : State,
    s.standsAt 0 → exec i s = .next s) ∧
  (∀ i ∈ [Instr.ldAAtN16, .ldAtN16A], ∀ s : State,
    (s.standsAt 1 → exec i s = .next (s.fetched.setLo (s.peek s.pc))) ∧
    (s.standsAt 2 → exec i s = .next (s.fetched.setHi (s.peek s.pc)))) ∧
  (∀ i ∈ [Instr.ldhAAtN8, .ldhAtN8A], ∀ s : State,
    s.standsAt 1 → exec i s = .next (s.fetched.setTmp (s.peek s.pc))) ∧
  (∀ (s : State) (lo hi : Byte), s.standsAt 3 → s.holdsLo lo → s.holdsHi hi →
    exec .ldAAtN16 s = .next ((s.noteRead (joinBytes hi lo)).setReg .a (s.peek (joinBytes hi lo))) ∧
    exec .ldAtN16A s = .next (s.memWrite (joinBytes hi lo) s.regs.a)) ∧
  (∀ (s : State) (n : Byte), s.standsAt 2 → s.holdsTmp n →
    exec .ldhAAtN8 s = .next ((s.noteRead (0xFF00 + n.setWidth 16)).setReg .a (s.peek (0xFF00 + n.setWidth 16))) ∧
    exec .ldhAtN8A s = .next (s.memWrite (0xFF00 + n.setWidth 16) s.regs.a)) ∧
  (∀ s : State, s.standsAt 1 →
    exec .ldAAtC s =
      .next ((s.noteRead (0xFF00 + s.regs.c.setWidth 16)).setReg .a (s.peek (0xFF00 + s.regs.c.setWidth 16))) ∧
    exec .ldAtCA s = .next (s.memWrite (0xFF00 + s.regs.c.setWidth 16) s.regs.a))

/-- Rests on R230 to R232 and, for the halves of the pairs, on the spec's decision D28 (R31). -/
def Obligations.SixteenBitLoads : Prop :=
  HalvesAreTheBytes ∧ PairsAreTheirHalves ∧
  (∀ p : Pair16,
    (Instr.ofLdPairImm p).hasEntry (.base (0x01 + 16 * p.field)) 3 3 ∧
    ∀ s : State, (s.standsAt 0 → exec (.ofLdPairImm p) s = .next s) ∧
      (s.standsAt 1 → exec (.ofLdPairImm p) s = .next (s.fetched.setLo (s.peek s.pc))) ∧
      (∀ lo, s.standsAt 2 → s.holdsLo lo →
        exec (.ofLdPairImm p) s =
          .next ((s.fetched.setHi (s.peek s.pc)).setPair p (joinBytes (s.peek s.pc) lo)))) ∧
  Instr.ldAtN16Sp.hasEntry (.base 0x08) 5 5 ∧ Instr.ldSpHl.hasEntry (.base 0xF9) 2 2 ∧
  ∀ s : State,
    (s.standsAt 0 → exec .ldAtN16Sp s = .next s ∧ exec .ldSpHl s = .next s) ∧
    (s.standsAt 1 → exec .ldAtN16Sp s = .next (s.fetched.setLo (s.peek s.pc)) ∧ exec .ldSpHl s = .next (s.setSp s.hl)) ∧
    (s.standsAt 2 → exec .ldAtN16Sp s = .next (s.fetched.setHi (s.peek s.pc))) ∧
    (∀ lo hi, s.holdsLo lo → s.holdsHi hi →
      (s.standsAt 3 → exec .ldAtN16Sp s = .next (s.memWrite (joinBytes hi lo) (lowByte s.sp))) ∧
      (s.standsAt 4 → exec .ldAtN16Sp s = .next (s.memWrite (joinBytes hi lo + 1) (highByte s.sp))))

/-- R236, and the schedule and the writes of R237 (its last sentence is `PushThenPopRestoresThePair`), with the halves
of the pairs (R31, by the spec's decision D28; R35). -/
def Obligations.PushAndPop : Prop :=
  HalvesAreTheBytes ∧ StackPairsAreTheirHalves ∧
  ∀ q : StackPair,
    (Instr.ofPush q).hasEntry (.base (0xC5 + 16 * q.field)) 4 4 ∧
    (Instr.ofPop q).hasEntry (.base (0xC1 + 16 * q.field)) 3 3 ∧
    ∀ s : State,
      (s.standsAt 0 → exec (.ofPush q) s = .next s ∧ exec (.ofPop q) s = .next s) ∧
      (s.standsAt 1 →
        exec (.ofPush q) s = .next (s.setSp (s.sp - 1)) ∧
        exec (.ofPop q) s = .next (((s.noteRead s.sp).setLo (s.peek s.sp)).setSp (s.sp + 1))) ∧
      (s.standsAt 2 →
        exec (.ofPush q) s = .next ((s.memWrite s.sp (highByte (s.regs.stackPair q))).setSp (s.sp - 1))) ∧
      (s.standsAt 3 → exec (.ofPush q) s = .next (s.memWrite s.sp (lowByte (s.regs.stackPair q)))) ∧
      (∀ lo, s.standsAt 2 → s.holdsLo lo →
        exec (.ofPop q) s =
          .next ((((s.noteRead s.sp).setHi (s.peek s.sp)).setSp (s.sp + 1)).setStackPair q
            (joinBytes (s.peek s.sp) lo))) ∧
      (∀ f : RegFile, f.stackPair .af = joinBytes f.a
        (BitVec.ofBool f.flags.z ++ BitVec.ofBool f.flags.n ++ BitVec.ofBool f.flags.h ++ BitVec.ofBool f.flags.c ++
          (0 : BitVec 4) : BitVec 8)) ∧
      (∀ (f : RegFile) (hi lo : Byte), f.setStackPair .af (joinBytes hi lo) =
        { f with a := hi, flags := ⟨lo.getLsbD 7, lo.getLsbD 6, lo.getLsbD 5, lo.getLsbD 4⟩ })

/-- R246, R250 to R257. -/
def Obligations.AccumulatorOperations : Prop :=
  (∀ (op : AluOp) (r : Reg8),
    (Instr.ofAluReg op r).hasEntry (.base (0x80 + 8 * op.field + r.field)) 1 1 ∧
    ∀ s : State, s.standsAt 0 →
      exec (.ofAluReg op r) s = .next (s.setResult .a (alu op s.regs.a (s.reg r) s.regs.flags))) ∧
  (∀ op : AluOp,
    (Instr.ofAluHl op).hasEntry (.base (0x86 + 8 * op.field)) 2 2 ∧
    (Instr.ofAluImm op).hasEntry (.base (0xC6 + 8 * op.field)) 2 2 ∧
    ∀ s : State,
      (s.standsAt 0 → exec (.ofAluHl op) s = .next s ∧ exec (.ofAluImm op) s = .next s) ∧
      (s.standsAt 1 →
        exec (.ofAluHl op) s =
          .next ((s.noteRead s.hl).setResult .a (alu op s.regs.a (s.peek s.hl) s.regs.flags)) ∧
        exec (.ofAluImm op) s = .next (s.fetched.setResult .a (alu op s.regs.a (s.peek s.pc) s.regs.flags)))) ∧
  (∀ (a v : Byte) (f : Flags),
    alu .add a v f = add8 a v false ∧ alu .adc a v f = add8 a v f.c ∧
    alu .sub a v f = sub8 a v false ∧ alu .sbc a v f = sub8 a v f.c ∧
    alu .and a v f = (a &&& v, ⟨decide (a &&& v = 0), false, true, false⟩) ∧
    alu .xor a v f = (a ^^^ v, ⟨decide (a ^^^ v = 0), false, false, false⟩) ∧
    alu .or a v f = (a ||| v, ⟨decide (a ||| v = 0), false, false, false⟩) ∧
    alu .cp a v f = (a, (sub8 a v false).2))

/-- R258 to R261. -/
def Obligations.IncrementAndDecrementBytes : Prop :=
  (∀ r : Reg8,
    (Instr.ofIncReg r).hasEntry (.base (0x04 + 8 * r.field)) 1 1 ∧
    (Instr.ofDecReg r).hasEntry (.base (0x05 + 8 * r.field)) 1 1 ∧
    ∀ s : State, s.standsAt 0 →
      exec (.ofIncReg r) s = .next ((s.setReg r (s.reg r + 1)).setFlags
        ⟨decide (s.reg r + 1 = 0), false, decide (s.reg r &&& 0x0F = 0x0F), s.regs.flags.c⟩) ∧
      exec (.ofDecReg r) s = .next ((s.setReg r (s.reg r - 1)).setFlags
        ⟨decide (s.reg r - 1 = 0), true, decide (s.reg r &&& 0x0F = 0x00), s.regs.flags.c⟩)) ∧
  Instr.incAtHl.hasEntry (.base 0x34) 3 3 ∧ Instr.decAtHl.hasEntry (.base 0x35) 3 3 ∧
  ∀ s : State,
    (s.standsAt 0 → exec .incAtHl s = .next s ∧ exec .decAtHl s = .next s) ∧
    (s.standsAt 1 →
      exec .incAtHl s = .next ((s.noteRead s.hl).setTmp (s.peek s.hl)) ∧
      exec .decAtHl s = .next ((s.noteRead s.hl).setTmp (s.peek s.hl))) ∧
    (∀ v, s.standsAt 2 → s.holdsTmp v →
      exec .incAtHl s = .next ((s.memWrite s.hl (v + 1)).setFlags
        ⟨decide (v + 1 = 0), false, decide (v &&& 0x0F = 0x0F), s.regs.flags.c⟩) ∧
      exec .decAtHl s = .next ((s.memWrite s.hl (v - 1)).setFlags
        ⟨decide (v - 1 = 0), true, decide (v &&& 0x0F = 0x00), s.regs.flags.c⟩))

/-- R262 to R265; the correction of DAA in unbounded integers, as R262 writes it. -/
def Obligations.DecimalAdjustAndFlagOperations : Prop :=
  Instr.daa.hasEntry (.base 0x27) 1 1 ∧ Instr.cpl.hasEntry (.base 0x2F) 1 1 ∧ Instr.scf.hasEntry (.base 0x37) 1 1 ∧
  Instr.ccf.hasEntry (.base 0x3F) 1 1 ∧
  (∀ s : State, s.standsAt 0 →
    exec .daa s = .next (s.setResult .a (daa8 s.regs.a s.regs.flags)) ∧
    exec .cpl s = .next ((s.setReg .a (s.regs.a ^^^ 0xFF)).setFlags
      ⟨s.regs.flags.z, true, true, s.regs.flags.c⟩) ∧
    exec .scf s = .next (s.setFlags ⟨s.regs.flags.z, false, false, true⟩) ∧
    exec .ccf s = .next (s.setFlags ⟨s.regs.flags.z, false, false, !s.regs.flags.c⟩)) ∧
  (∀ (a : Byte) (f : Flags),
    let a1 : Int := if f.n then (if f.c then (a.toNat : Int) - 0x60 else a.toNat)
      else if f.c ∨ 0x99 < a.toNat then a.toNat + 0x60 else a.toNat
    let c1 : Bool := if f.n then f.c else f.c || decide (0x99 < a.toNat)
    let a2 : Int := if f.n then (if f.h then a1 - 0x06 else a1)
      else if f.h ∨ 0x09 < a1 % 16 then a1 + 0x06 else a1
    ((daa8 a f).1.toNat : Int) = a2 % 256 ∧ (daa8 a f).2 = ⟨decide ((daa8 a f).1 = 0), f.n, false, c1⟩)

/-- R280 to R282, with the halves of the pairs (R31, by the spec's decision D28); H and C of ADD HL as the carries of
the sentence that R280 marks "Equivalently [derived: from this rule]". -/
def Obligations.SixteenBitArithmetic : Prop :=
  PairsAreTheirHalves ∧
  (∀ p : Pair16,
    (Instr.ofAddHl p).hasEntry (.base (0x09 + 16 * p.field)) 2 2 ∧
    (Instr.ofIncPair p).hasEntry (.base (0x03 + 16 * p.field)) 2 2 ∧
    (Instr.ofDecPair p).hasEntry (.base (0x0B + 16 * p.field)) 2 2 ∧
    ∀ s : State,
      (s.standsAt 0 →
        exec (.ofAddHl p) s = .next s ∧ exec (.ofIncPair p) s = .next s ∧ exec (.ofDecPair p) s = .next s) ∧
      (s.standsAt 1 →
        exec (.ofAddHl p) s = .next ((s.setPair .hl (add16 s.hl (s.pair p) s.regs.flags).1).setFlags
          (add16 s.hl (s.pair p) s.regs.flags).2) ∧
        exec (.ofIncPair p) s = .next (s.setPair p (s.pair p + 1)) ∧
        exec (.ofDecPair p) s = .next (s.setPair p (s.pair p - 1)))) ∧
  (∀ (a b : Word) (f : Flags),
    add16 a b f = (a + b, ⟨f.z, false, decide (0x0FFF < a.toNat % 0x1000 + b.toNat % 0x1000),
      decide (0xFFFF < a.toNat + b.toNat)⟩))

/-- R283, R284. -/
def Obligations.StackPointerPlusDisplacement : Prop :=
  Instr.addSpE8.hasEntry (.base 0xE8) 4 4 ∧ Instr.ldHlSpE8.hasEntry (.base 0xF8) 3 3 ∧
  ∀ s : State,
    (s.standsAt 0 → exec .addSpE8 s = .next s ∧ exec .ldHlSpE8 s = .next s) ∧
    (s.standsAt 1 →
      exec .addSpE8 s = .next (s.fetched.setTmp (s.peek s.pc)) ∧
      exec .ldHlSpE8 s = .next (s.fetched.setTmp (s.peek s.pc))) ∧
    (s.standsAt 2 → exec .addSpE8 s = .next s) ∧
    (∀ e : Byte, s.holdsTmp e →
      let sum : Word := BitVec.ofInt 16 (s.sp.toNat + e.toInt)
      let f : Flags := ⟨false, false, decide (0x0F < s.sp.toNat % 16 + e.toNat % 16),
        decide (0xFF < s.sp.toNat % 256 + e.toNat)⟩
      (s.standsAt 3 → exec .addSpE8 s = .next ((s.setSp sum).setFlags f)) ∧
      (s.standsAt 2 → exec .ldHlSpE8 s = .next ((s.setPair .hl sum).setFlags f)))

/-- R300 to R303. -/
def Obligations.AccumulatorRotates : Prop :=
  Instr.rlca.hasEntry (.base 0x07) 1 1 ∧ Instr.rrca.hasEntry (.base 0x0F) 1 1 ∧ Instr.rla.hasEntry (.base 0x17) 1 1 ∧
  Instr.rra.hasEntry (.base 0x1F) 1 1 ∧
  ∀ s : State, s.standsAt 0 →
    ∀ e ∈ [(Instr.rlca, RotOp.rlc), (.rrca, .rrc), (.rla, .rl), (.rra, .rr)],
      exec e.1 s = .next ((s.setReg .a (rot e.2 s.regs.a s.regs.flags.c).1).setFlags
        ⟨false, false, false, (rot e.2 s.regs.a s.regs.flags.c).2⟩)

/-- R304, R306, R308, R310, R312, R314, R316, R318, the register forms: M2 operates; M1 is the prefix's (R320). -/
def Obligations.RotatesOnRegisters : Prop :=
  ∀ (op : RotOp) (r : Reg8),
    (Instr.ofRotReg op r).hasEntry (.cb (8 * op.field + r.field)) 2 2 ∧
    ∀ s : State, s.standsAt 1 →
      exec (.ofRotReg op r) s = .next ((s.setReg r (rot op (s.reg r) s.regs.flags.c).1).setFlags
        ⟨decide ((rot op (s.reg r) s.regs.flags.c).1 = 0), false, false, (rot op (s.reg r) s.regs.flags.c).2⟩)

/-- R305, R307, R309, R311, R313, R315, R317, R319, the forms on `(HL)`. -/
def Obligations.RotatesOnMemory : Prop :=
  ∀ op : RotOp,
    (Instr.ofRotHl op).hasEntry (.cb (6 + 8 * op.field)) 4 4 ∧
    ∀ s : State,
      (s.standsAt 1 → exec (.ofRotHl op) s = .next s) ∧
      (s.standsAt 2 → exec (.ofRotHl op) s = .next ((s.noteRead s.hl).setTmp (s.peek s.hl))) ∧
      (∀ v, s.standsAt 3 → s.holdsTmp v →
        exec (.ofRotHl op) s = .next ((s.memWrite s.hl (rot op v s.regs.flags.c).1).setFlags
          ⟨decide ((rot op v s.regs.flags.c).1 = 0), false, false, (rot op v s.regs.flags.c).2⟩))

/-- R330 to R335. -/
def Obligations.BitTestResetAndSet : Prop :=
  (∀ (b : Oct) (r : Reg8),
    (Instr.ofBitReg b r).hasEntry (.cb (0x40 + 8 * b.field + r.field)) 2 2 ∧
    (Instr.ofResReg b r).hasEntry (.cb (0x80 + 8 * b.field + r.field)) 2 2 ∧
    (Instr.ofSetReg b r).hasEntry (.cb (0xC0 + 8 * b.field + r.field)) 2 2 ∧
    ∀ s : State, s.standsAt 1 →
      exec (.ofBitReg b r) s =
        .next (s.setFlags ⟨!(s.reg r).getLsbD b.toNat, false, true, s.regs.flags.c⟩) ∧
      exec (.ofResReg b r) s = .next (s.setReg r (clearBit b.toNat (s.reg r))) ∧
      exec (.ofSetReg b r) s = .next (s.setReg r (assertBit b.toNat (s.reg r)))) ∧
  (∀ b : Oct,
    (Instr.ofBitHl b).hasEntry (.cb (0x46 + 8 * b.field)) 3 3 ∧
    (Instr.ofResHl b).hasEntry (.cb (0x86 + 8 * b.field)) 4 4 ∧
    (Instr.ofSetHl b).hasEntry (.cb (0xC6 + 8 * b.field)) 4 4 ∧
    ∀ s : State,
      (s.standsAt 1 → exec (.ofBitHl b) s = .next s ∧ exec (.ofResHl b) s = .next s ∧ exec (.ofSetHl b) s = .next s) ∧
      (s.standsAt 2 →
        exec (.ofBitHl b) s = .next (((s.noteRead s.hl).setTmp (s.peek s.hl)).setFlags
          ⟨!(s.peek s.hl).getLsbD b.toNat, false, true, s.regs.flags.c⟩) ∧
        exec (.ofResHl b) s = .next ((s.noteRead s.hl).setTmp (s.peek s.hl)) ∧
        exec (.ofSetHl b) s = .next ((s.noteRead s.hl).setTmp (s.peek s.hl))) ∧
      (∀ v, s.standsAt 3 → s.holdsTmp v →
        exec (.ofResHl b) s = .next (s.memWrite s.hl (clearBit b.toNat v)) ∧
        exec (.ofSetHl b) s = .next (s.memWrite s.hl (assertBit b.toNat v)))) ∧
  (∀ (b : Oct) (v : Byte) (i : Nat), i < 8 →
    (clearBit b.toNat v).getLsbD i = (if i = b.toNat then false else v.getLsbD i) ∧
    (assertBit b.toNat v).getLsbD i = (if i = b.toNat then true else v.getLsbD i))

/-- R350 to R354, with the conditions of R107; the cycle a taken branch adds is placed by the spec's decision D4. -/
def Obligations.Jumps : Prop :=
  (∀ (f : Flags) (cc : Cond), f.cond cc = true ↔ cc.holds f) ∧
  (∀ (s : State) (cc : Cond), s.cond cc = s.regs.flags.cond cc) ∧
  (Instr.jpN16.hasEntry (.base 0xC3) 4 4 ∧ Instr.jpHl.hasEntry (.base 0xE9) 1 1 ∧ Instr.jrE8.hasEntry (.base 0x18) 3 3) ∧
  (∀ cc : Cond,
    (Instr.ofJpCc cc).hasEntry (.base (0xC2 + 8 * cc.field)) 3 4 ∧
    (Instr.ofJrCc cc).hasEntry (.base (0x20 + 8 * cc.field)) 2 3) ∧
  ∀ s : State,
    (s.standsAt 0 → exec .jpN16 s = .next s ∧ exec .jpHl s = .next (s.setPc s.hl) ∧ exec .jrE8 s = .next s ∧
      ∀ cc, exec (.ofJpCc cc) s = .next s ∧ exec (.ofJrCc cc) s = .next s) ∧
    (s.standsAt 1 →
      exec .jpN16 s = .next (s.fetched.setLo (s.peek s.pc)) ∧
      exec .jrE8 s = .next (s.fetched.setTmp (s.peek s.pc)) ∧
      ∀ cc, exec (.ofJpCc cc) s = .next (s.fetched.setLo (s.peek s.pc)) ∧
        exec (.ofJrCc cc) s = .next
          (if s.cond cc then (s.fetched.setTmp (s.peek s.pc)).addCycles 1 else s.fetched.setTmp (s.peek s.pc))) ∧
    (s.standsAt 2 →
      exec .jpN16 s = .next (s.fetched.setHi (s.peek s.pc)) ∧
      ∀ cc, exec (.ofJpCc cc) s = .next
        (if s.cond cc then (s.fetched.setHi (s.peek s.pc)).addCycles 1 else s.fetched.setHi (s.peek s.pc))) ∧
    (∀ e : Byte, s.standsAt 2 → s.holdsTmp e →
      exec .jrE8 s = .next (s.setPc (BitVec.ofInt 16 (s.pc.toNat + e.toInt))) ∧
      ∀ cc, exec (.ofJrCc cc) s = .next (s.setPc (BitVec.ofInt 16 (s.pc.toNat + e.toInt)))) ∧
    (∀ lo hi : Byte, s.standsAt 3 → s.holdsLo lo → s.holdsHi hi →
      exec .jpN16 s = .next (s.setPc (joinBytes hi lo)) ∧
      ∀ cc, exec (.ofJpCc cc) s = .next (s.setPc (joinBytes hi lo)))

/-- R355, R356, R365, with the conditions of R107; the cycles a taken CALL adds are placed by the spec's decision D4. -/
def Obligations.CallsAndRestarts : Prop :=
  (∀ (f : Flags) (cc : Cond), f.cond cc = true ↔ cc.holds f) ∧
  (∀ (s : State) (cc : Cond), s.cond cc = s.regs.flags.cond cc) ∧
  Instr.callN16.hasEntry (.base 0xCD) 6 6 ∧
  (∀ cc : Cond, (Instr.ofCallCc cc).hasEntry (.base (0xC4 + 8 * cc.field)) 3 6) ∧
  (∀ t : Oct, (Instr.ofRst t).hasEntry (.base (0xC7 + 8 * t.field)) 4 4) ∧
  ∀ (s : State) (cc : Cond) (t : Oct),
    (s.standsAt 0 → exec .callN16 s = .next s ∧ exec (.ofCallCc cc) s = .next s ∧ exec (.ofRst t) s = .next s) ∧
    (s.standsAt 1 →
      exec .callN16 s = .next (s.fetched.setLo (s.peek s.pc)) ∧
      exec (.ofCallCc cc) s = .next (s.fetched.setLo (s.peek s.pc)) ∧
      exec (.ofRst t) s = .next (s.setSp (s.sp - 1))) ∧
    (s.standsAt 2 →
      exec .callN16 s = .next (s.fetched.setHi (s.peek s.pc)) ∧
      exec (.ofCallCc cc) s = .next
        (if s.cond cc then (s.fetched.setHi (s.peek s.pc)).addCycles 3 else s.fetched.setHi (s.peek s.pc)) ∧
      exec (.ofRst t) s = .next ((s.memWrite s.sp (highByte s.pc)).setSp (s.sp - 1))) ∧
    (s.standsAt 3 →
      exec .callN16 s = .next (s.setSp (s.sp - 1)) ∧ exec (.ofCallCc cc) s = .next (s.setSp (s.sp - 1)) ∧
      exec (.ofRst t) s = .next ((s.memWrite s.sp (lowByte s.pc)).setPc (BitVec.ofNat 16 (8 * t.toNat)))) ∧
    (s.standsAt 4 →
      exec .callN16 s = .next ((s.memWrite s.sp (highByte s.pc)).setSp (s.sp - 1)) ∧
      exec (.ofCallCc cc) s = .next ((s.memWrite s.sp (highByte s.pc)).setSp (s.sp - 1))) ∧
    (∀ lo hi : Byte, s.standsAt 5 → s.holdsLo lo → s.holdsHi hi →
      exec .callN16 s = .next ((s.memWrite s.sp (lowByte s.pc)).setPc (joinBytes hi lo)) ∧
      exec (.ofCallCc cc) s = .next ((s.memWrite s.sp (lowByte s.pc)).setPc (joinBytes hi lo)))

/-- R360, R361, R363, with the conditions of R107; the cycles a taken RET adds are placed by the spec's decision D4, the
effect of RETI on IME is its decision D18. -/
def Obligations.Returns : Prop :=
  (∀ (f : Flags) (cc : Cond), f.cond cc = true ↔ cc.holds f) ∧
  (∀ (s : State) (cc : Cond), s.cond cc = s.regs.flags.cond cc) ∧
  Instr.ret.hasEntry (.base 0xC9) 4 4 ∧ Instr.reti.hasEntry (.base 0xD9) 4 4 ∧
  (∀ cc : Cond, (Instr.ofRetCc cc).hasEntry (.base (0xC0 + 8 * cc.field)) 2 5) ∧
  ∀ (s : State) (cc : Cond),
    (s.standsAt 0 → exec .ret s = .next s ∧ exec .reti s = .next s ∧ exec (.ofRetCc cc) s = .next s) ∧
    (s.standsAt 1 →
      exec .ret s = .next (((s.noteRead s.sp).setLo (s.peek s.sp)).setSp (s.sp + 1)) ∧
      exec .reti s = .next (((s.noteRead s.sp).setLo (s.peek s.sp)).setSp (s.sp + 1)) ∧
      exec (.ofRetCc cc) s = .next (if s.cond cc then s.addCycles 3 else s)) ∧
    (s.standsAt 2 →
      exec .ret s = .next (((s.noteRead s.sp).setHi (s.peek s.sp)).setSp (s.sp + 1)) ∧
      exec .reti s = .next (((s.noteRead s.sp).setHi (s.peek s.sp)).setSp (s.sp + 1)) ∧
      exec (.ofRetCc cc) s = .next (((s.noteRead s.sp).setLo (s.peek s.sp)).setSp (s.sp + 1))) ∧
    (s.standsAt 3 → exec (.ofRetCc cc) s = .next (((s.noteRead s.sp).setHi (s.peek s.sp)).setSp (s.sp + 1))) ∧
    (∀ lo hi : Byte, s.holdsLo lo → s.holdsHi hi →
      (s.standsAt 3 →
        exec .ret s = .next (s.setPc (joinBytes hi lo)) ∧
        exec .reti s = .next { s.setPc (joinBytes hi lo) with ime := true }) ∧
      (s.standsAt 4 → exec (.ofRetCc cc) s = .next (s.setPc (joinBytes hi lo))))

/-- R380, R386 (that DI keeps `delay` is the spec's decision D19), R387: NOP, DI and EI; the delay that EI sets is
consumed by the next opcode fetch, and not by the start of an acceptance sequence. -/
def Obligations.NopAndInterruptEnable : Prop :=
  Instr.nop.hasEntry (.base 0x00) 1 1 ∧ Instr.di.hasEntry (.base 0xF3) 1 1 ∧ Instr.ei.hasEntry (.base 0xFB) 1 1 ∧
  ∀ s : State,
    (s.standsAt 0 →
      exec .nop s = .next s ∧ exec .di s = .next { s with ime := false } ∧
      exec .ei s = .next { s with delay := true }) ∧
    (s.delay = true → s.fetch.delay = false ∧ s.fetch.ime = true) ∧
    (s.delay = false → s.fetch.delay = false ∧ s.fetch.ime = s.ime) ∧
    (s.beginInterrupt.delay = s.delay)

/-- R382 and R384 (what STOP does is the spec's decision D16): HALT and STOP. -/
def Obligations.HaltAndStop : Prop :=
  Instr.halt.hasEntry (.base 0x76) 1 1 ∧ Instr.stop.hasEntry (.base 0x10) 1 1 ∧ lengthBase 0x10 = 2 ∧
  ∀ s : State, s.standsAt 0 →
    (s.ime = true → exec .halt s = .next { s with halted := true }) ∧
    (s.ime = false → s.pending ≠ 0 → exec .halt s = .next { s with haltBug := true }) ∧
    (s.ime = false → s.pending = 0 → exec .halt s = .next { s with halted := true }) ∧
    exec .stop s = .next { s.setPc (s.pc + 1) with stopped := true }

/-- R388, R149 (the cycle of the CB byte is the spec's decision D6): the prefix: nothing in M1; M2 fetches the CB
byte, which selects the CB routine and its count. -/
def Obligations.CbPrefixSelectsTheCbRoutine : Prop :=
  Instr.prefixCB.hasEntry (.base 0xCB) 2 2 ∧
  ∀ (s : State) (c : Continuation), s.cont = some c →
    (c.k = 0 → exec .prefixCB s = .next s) ∧
    (c.k = 1 → exec .prefixCB s = .next
      { s.fetched with
        cont := some { c with routine := .instr (decodeCb (s.peek s.pc)), cbop := some (s.peek s.pc) }
        cyclesLeft := s.cyclesLeft + ((decodeCb (s.peek s.pc)).cycles - 2) })

/-- R116, R390 (the list and the one cycle are the spec's decision D15, the report its decision D24): which opcodes
are unimplemented, and what they do. -/
def Obligations.UnimplementedOpcodesReport : Prop :=
  (∀ op : Byte, (∃ u, decodeBase op = Instr.ofUndef u) ↔
    op ∈ [0xD3, 0xDB, 0xDD, 0xE3, 0xE4, 0xEB, 0xEC, 0xED, 0xF4, 0xFC, 0xFD]) ∧
  (∀ b u, decodeCb b ≠ Instr.ofUndef u) ∧
  ∀ u : Undef,
    (Instr.ofUndef u).hasEntry (.base u.byte) 1 1 ∧ lengthBase u.byte = 1 ∧
    ∀ (s : State) (c : Continuation) (op : Byte) (a : Word),
      s.cont = some c → c.k = 0 → c.op = some op → c.opAddr = some a →
      exec (.ofUndef u) s = .next { s with diagLog := s.diagLog ++ [(op, a)] }

/-! ### What an instruction leaves alone -/

/-- A segment changes no general register but the instruction's destinations, and SP only where the instruction names
it. -/
def Obligations.FrameOfRegisters : Prop :=
  ∀ (i : Instr) (s t : State), exec i s = .next t →
    (∀ r, r ∉ destRegs i.form → t.reg r = s.reg r) ∧ (writesSp i.form = false → t.sp = s.sp)

/-- R36: an instruction leaves every flag it does not name unchanged. -/
def Obligations.FrameOfFlags : Prop :=
  ∀ (i : Instr) (s t : State), exec i s = .next t →
    ((writesFlags i.form).z = false → t.regs.flags.z = s.regs.flags.z) ∧
    ((writesFlags i.form).n = false → t.regs.flags.n = s.regs.flags.n) ∧
    ((writesFlags i.form).h = false → t.regs.flags.h = s.regs.flags.h) ∧
    ((writesFlags i.form).c = false → t.regs.flags.c = s.regs.flags.c)

/-- A segment that stores, stores one byte, at the address `storeAddr` computes; every other address keeps its content
and (a device apart) reads as before; a segment that stores nothing changes none. -/
def Obligations.FrameOfMemory : Prop :=
  ∀ (i : Instr) (s t : State), exec i s = .next t →
    (∀ a, storeAddr i.form s = some a → ∀ b, b ≠ a →
      t.content b = s.content b ∧ (s.handler b ≠ some .device → t.peek b = s.peek b)) ∧
    (storeAddr i.form s = none → ∀ b,
      t.content b = s.content b ∧ (s.handler b ≠ some .device → t.peek b = s.peek b))

/-- The interrupt and execution state: each piece is changed by the instructions the spec names for it and by no
other; nor does any change the inputs to come and the step count, which are the model's own (notes/assumptions/5.md,
10.md). -/
def Obligations.FrameOfControlState : Prop :=
  ∀ (i : Instr) (s t : State), exec i s = .next t →
    (i ≠ .di → i ≠ .reti → t.ime = s.ime) ∧ (i ≠ .ei → t.delay = s.delay) ∧
    (i ≠ .halt → t.halted = s.halted ∧ t.haltBug = s.haltBug) ∧ (i ≠ .stop → t.stopped = s.stopped) ∧
    ((∀ u, i ≠ .ofUndef u) → t.diagLog = s.diagLog) ∧
    (storeAddr i.form s ≠ some 0xFFFF → t.ie = s.ie) ∧ (storeAddr i.form s ≠ some 0xFF0F → t.ifl = s.ifl) ∧
    (conditionOf i.form = none → i ≠ .prefixCB → t.cyclesLeft = s.cyclesLeft) ∧
    t.pendingVector = s.pendingVector ∧ t.params = s.params ∧ t.busMap = s.busMap ∧ t.inputs = s.inputs ∧
    t.clock = s.clock

/-! ### The sequencer -/

/-- R146 to R150: where the bytes at PC decode to a whole instruction, the step from a boundary that fetches runs the
first segment of that instruction (of the prefix routine, for a CB instruction) and then counts it (`finish`). -/
def Obligations.StepRunsTheDecodedInstruction : Prop :=
  ∀ (s : State) (op : Byte) (more rest : List Byte) (c : Code),
    s.fetchesNext → s.sample.peek s.sample.pc = op → decode (op :: more) = .ok (c, rest) →
    (∀ b, c.instr.opcode = .base b →
      step s = andThen (exec c.instr s.sample.atFirstSegment) fun t => .next t.finish) ∧
    (∀ b, c.instr.opcode = .cb b →
      step s = andThen (exec .prefixCB s.sample.atFirstSegment) fun t => .next t.finish)

/-- R149, R150: between boundaries the step runs the next segment of the routine in flight; in M2 of the prefix the
action of the CB routine follows in the same step. -/
def Obligations.StepContinuesTheRoutine : Prop :=
  ∀ (s : State) (n : Nat) (c : Continuation), s.sample.cyclesLeft = n + 1 → s.sample.cont = some c →
    (∀ i, c.routine = .instr i → i ≠ .prefixCB →
      step s = andThen (exec i { s.sample with cyclesLeft := n }) fun t => .next t.finish) ∧
    (c.routine = .instr .prefixCB → c.k = 1 → ∃ u,
      exec .prefixCB { s.sample with cyclesLeft := n } = .next u ∧
      step s = andThen (exec (decodeCb (s.sample.peek s.sample.pc)) u) fun t => .next t.finish) ∧
    (c.routine = .isr →
      step s = andThen (acceptInterrupt { s.sample with cyclesLeft := n }) fun t => .next t.finish)

/-- R146 to R148: the opcode fetch, with the halt bug and the EI delay (placed by the spec's decision D17), and the
dispatch. -/
def Obligations.OpcodeFetchAndDispatch : Prop :=
  ∀ s : State,
    (s.haltBug = false → s.fetch.pc = s.pc + 1) ∧ (s.haltBug = true → s.fetch.pc = s.pc) ∧ s.fetch.haltBug = false ∧
    s.fetch.busLog = ⟨s.clock, .read, s.pc, s.peek s.pc⟩ :: s.busLog ∧
    (s.delay = true → s.fetch.ime = true) ∧ (s.delay = false → s.fetch.ime = s.ime) ∧ s.fetch.delay = false ∧
    s.fetch.cont = some ⟨.instr (decodeBase (s.peek s.pc)), 0, some s.pc, some (s.peek s.pc), none, none, none, none⟩ ∧
    s.fetch.cyclesLeft = (decodeBase (s.peek s.pc)).cycles ∧ decodeBase 0xCB = .prefixCB ∧
    s.fetch.regs = s.regs ∧ s.fetch.ie = s.ie ∧ s.fetch.ifl = s.ifl ∧ s.fetch.mem = s.mem

/-- Rests on R155: an idle step changes nothing but the sample of IRQ into IF. That the step also uses up one input of a
list and counts one is the model's choice (notes/assumptions/5.md and 10.md, DESIGN CHOICE). -/
def Obligations.IdleStepsChangeNothingElse : Prop :=
  ∀ s : State, s.input.reset = false →
    s.sample = { s with ifl := s.ifl ||| s.input.irq, inputs := s.inputs.tail, clock := s.clock + 1 } ∧
    (s.cyclesLeft = 0 → s.stopped = true → s.sample.stopWakes = false → step s = .next s.sample) ∧
    (s.cyclesLeft = 0 → s.stopped = false → s.halted = true → s.sample.pending = 0 → step s = .next s.sample)

/-- R142, R420 (that the same step goes on is the spec's decision D29, Stopped its decision D16): Halted ends where an
enabled interrupt is pending, whatever IME is, and the same step goes on: it starts the acceptance sequence with IME 1
and fetches with IME 0. Stopped ends where `STOP_WAKE` holds. That
`STOP_WAKE` may be any mask over IF is the model's choice (notes/assumptions/7.md, DEDUCED); D16 gives
`(IF & 0x10) != 0`, the mask 0x10. -/
def Obligations.WakeUpGoesOnInTheSameStep : Prop :=
  ∀ s : State, s.sample.cyclesLeft = 0 →
    (s.sample.stopped = false → s.sample.halted = true → s.sample.pending ≠ 0 →
      (s.sample.ime = true → step s = runSegment { s.sample with halted := false }.beginInterrupt) ∧
      (s.sample.ime = false → step s = runSegment { s.sample with halted := false }.fetch)) ∧
    (s.sample.stopped = true → s.sample.halted = false → s.sample.stopWakes = true →
      (s.sample.ime = true ∧ s.sample.pending ≠ 0 → step s = runSegment { s.sample with stopped := false }.beginInterrupt) ∧
      (s.sample.ime = false ∨ s.sample.pending = 0 → step s = runSegment { s.sample with stopped := false }.fetch)) ∧
    (∀ m, s.params.stopWake = .ifMask m → (s.stopWakes = true ↔ s.ifl &&& m ≠ 0))

/-- R143, R144, and M1 of R410 (the schedule is the spec's decision D7): at an awake boundary with IME 1 and an
enabled interrupt pending, the step starts the acceptance sequence: nothing is fetched, PC, `haltBug` and `delay`
stay, and M1 clears IME. -/
def Obligations.AcceptanceStartsAtTheBoundary : Prop :=
  ∀ s : State, s.sample.cyclesLeft = 0 → s.sample.stopped = false → s.sample.halted = false →
    s.sample.ime = true → s.sample.pending ≠ 0 →
    step s = .next { s.sample with
      ime := false
      pendingVector := priorityVector s.sample.pending
      cyclesLeft := 4
      cont := some ⟨.isr, 1, none, none, none, none, none, none⟩ }

/-- R410, R412, R413: the five segments of the acceptance sequence (its schedule is the spec's decision D7, the target
of a cancelled sequence its decision D9). -/
def Obligations.AcceptanceSequenceSegments : Prop :=
  ∀ s : State,
    (s.standsAt 0 → acceptInterrupt s = .next { s with ime := false }) ∧
    (s.standsAt 1 → acceptInterrupt s = .next s) ∧
    (s.standsAt 2 →
      let u := (s.setSp (s.sp - 1)).memWrite (s.sp - 1) (highByte s.pc)
      (s.sp ≠ 0 → acceptInterrupt s = .next u) ∧
      (s.sp = 0 → acceptInterrupt s = .next { u with pendingVector := priorityVector u.pending })) ∧
    (s.standsAt 3 → acceptInterrupt s = .next ((s.setSp (s.sp - 1)).memWrite (s.sp - 1) (lowByte s.pc))) ∧
    (s.standsAt 4 →
      (∀ i, s.pendingVector = some i →
        acceptInterrupt s = .next
          { s with pc := BitVec.ofNat 16 (0x0040 + 8 * i.index), ifl := s.ifl &&& ~~~((1 : BitVec 5) <<< i.index) }) ∧
      (s.pendingVector = none → acceptInterrupt s = .next { s with pc := 0x0000 }))

/-- R411 (with R402): the encoder answers the lowest set bit, and its vector is `0x0040 + 8 * i`. -/
def Obligations.PriorityEncoderTakesTheLowestBit : Prop :=
  (∀ m, priorityVector m = none ↔ m = 0) ∧
  (∀ m i, priorityVector m = some i → m.getLsbD i.index = true ∧ ∀ j < i.index, m.getLsbD j = false) ∧
  (∀ i : IntSource, i.vector = BitVec.ofNat 16 (0x0040 + 8 * i.index)) ∧
  IntSource.vblank.index = 0 ∧ IntSource.lcd.index = 1 ∧ IntSource.timer.index = 2 ∧ IntSource.serial.index = 3 ∧
  IntSource.joypad.index = 4

/-- R414 (the spec's own derivation from R410): the whole acceptance of an interrupt. With no further input, the five
steps from a boundary leave SP two lower, PC's old value on the stack (high byte at SP-1, low byte at SP-2), IME 0, PC
at the vector of the highest-priority source, and exactly its IF bit cleared; no flag and no general register changes.
-/
def Obligations.InterruptEntryTakesFiveSteps : Prop :=
  ∀ s : State, Memory.wf s.mem = true → s.cyclesLeft = 0 → s.halted = false → s.stopped = false → s.inputs = [] →
    s.ime = true → s.pending ≠ 0 →
    (∀ a ∈ [s.sp - 1, s.sp - 2], a ≠ 0xFF0F ∧ a ≠ 0xFFFF ∧ s.handler a = some .ram) →
    ∃ t i, Host.Core.run Sys2Proof.core 5 s = .next t ∧ priorityVector s.pending = some i ∧
      t.pc = BitVec.ofNat 16 (0x0040 + 8 * i.index) ∧ t.ime = false ∧
      t.ifl = s.ifl &&& ~~~((1 : BitVec 5) <<< i.index) ∧ t.ie = s.ie ∧ t.regs = { s.regs with sp := s.sp - 2 } ∧
      t.content (s.sp - 1) = highByte s.pc ∧ t.content (s.sp - 2) = lowByte s.pc ∧
      t.cyclesLeft = 0 ∧ t.cont = none ∧ t.delay = s.delay ∧ t.haltBug = s.haltBug

/-- R406, R407 (the spec's decisions D12 and D25): the request input is sampled before anything else of the step, so a
request shows at the boundary of its own step. What the step's segment writes to IF comes after it and wins: whichever
instruction stores to 0xFF0F, IF is the byte written (`LD (HL),r` stands out with its byte), the pushes of the
acceptance sequence included; and M5 of that sequence clears a request of the same step for the source it services, and
keeps the others. -/
def Obligations.RequestsAreSampledFirst : Prop :=
  ∀ s : State, s.input.reset = false →
    s.sample.ifl = s.ifl ||| s.input.irq ∧
    (s.cyclesLeft = 0 → s.stopped = false → s.halted = false → s.ime = true →
      s.ie.setWidth 5 &&& (s.ifl ||| s.input.irq) ≠ 0 → ∃ t, step s = .next t ∧ ∃ d, t.cont = some d ∧ d.routine = .isr) ∧
    (∀ n c r, s.cyclesLeft = n + 1 → s.cont = some c → c.k = 1 → c.routine = .instr (.ofLdHlReg r) → s.hl = 0xFF0F →
      ∃ t, step s = .next t ∧ t.ifl = (s.reg r).setWidth 5) ∧
    (∀ c i, Inv s → s.cont = some c → c.routine = .instr i → storeAddr i.form s = some 0xFF0F →
      ∃ t v, step s = .next t ∧ t.busLog = ⟨s.clock + 1, .write, 0xFF0F, v⟩ :: s.busLog ∧ t.ifl = v.setWidth 5) ∧
    (∀ n c, s.cyclesLeft = n + 1 → s.cont = some c → c.routine = .isr →
      (c.k = 2 → s.sp - 1 = 0xFF0F → ∃ t, step s = .next t ∧ t.ifl = (highByte s.pc).setWidth 5) ∧
      (c.k = 3 → s.sp - 1 = 0xFF0F → ∃ t, step s = .next t ∧ t.ifl = (lowByte s.pc).setWidth 5) ∧
      (∀ src, c.k = 4 → s.pendingVector = some src → ∃ t, step s = .next t ∧
        t.ifl.getLsbD src.index = false ∧
        ∀ j, j ≠ src.index → t.ifl.getLsbD j = (s.ifl ||| s.input.irq).getLsbD j))

/-- R50, R451 (several values are the spec's decision D14): the values the reset leaves that the spec gives, at
power-on and by the reset event; the reset event makes no bus access and discards what was in flight. What the
registers hold is `RESET_REGS` (notes/assumptions/1.md). The reset event is the spec's decision D26; that memory, the
bus map, the transaction record, the step count, the coming inputs and the parameters stay, and that the step then
samples IRQ and runs as from the reset state, is the model's reading of R451 (notes/assumptions/6.md, DEDUCED). That the
reset event leaves PC 0x0000 also on a platform started in the post-boot profile of R452 is the model's choice
(notes/assumptions/15.md, DESIGN CHOICE). -/
def Obligations.ResetLeavesTheResetState : Prop :=
  (State.reset.pc = 0x0000 ∧ State.reset.ime = false ∧ State.reset.ie = 0x00 ∧ State.reset.ifl = 0x01 ∧
    State.reset.peek 0xFF0F = 0xE1 ∧ State.reset.delay = false ∧ State.reset.halted = false ∧
    State.reset.stopped = false ∧ State.reset.haltBug = false ∧ State.reset.cyclesLeft = 0 ∧ State.reset.cont = none ∧
    State.reset.pendingVector = none ∧ State.reset.diagLog = []) ∧
  ∀ s : State, s.input.reset = true →
    step s = step { s.resetBlock with inputs := ⟨false, s.input.irq⟩ :: s.inputs.tail } ∧
    s.resetBlock = { State.reset with
      regs := s.params.resetRegs, mem := s.mem, busMap := s.busMap, busLog := s.busLog, clock := s.clock,
      inputs := s.inputs, params := s.params }

/-! ### The whole machine -/

/-- The invariant holds right after reset. -/
def Obligations.ResetMeetsTheInvariant : Prop := Inv State.reset

/-- The invariants of R43, R46 and R39 (the spec's own derivations) and the canonical form of the model's memory
(notes/assumptions/3.md): every step keeps the invariant, from every state that meets it, whatever the inputs (a reset
among them). -/
def Obligations.EveryStepKeepsTheInvariant : Prop := ∀ s t : State, Inv s → step s = .next t → Inv t

/-- "No condition stops the step" (R156): from every state that meets the invariant the step answers a next state. -/
def Obligations.NoConditionStopsTheStep : Prop := ∀ s : State, Inv s → ∃ t, step s = .next t

/-- R153 (the spec's own derivation), R142: an instruction occupies exactly its declared number of steps (a conditional
one whose condition holds, its taken number), the first being its fetch; a CB instruction the number of its CB entry;
the acceptance sequence 5; an idle step one. What the step that leaves Halted or Stopped begins counts that step as its
first (by the spec's decisions D29 and D16). -/
def Obligations.InstructionsTakeTheirDeclaredSteps : Prop :=
  ∀ s : State, Inv s → s.noReset →
    let exactly (n : Nat) : Prop :=
      (∃ t, Host.Core.run Sys2Proof.core n s = .next t ∧ t.cyclesLeft = 0 ∧ t.cont = none) ∧
      (∀ j, 0 < j → j < n → ∃ u, Host.Core.run Sys2Proof.core j s = .next u ∧ 0 < u.cyclesLeft)
    (s.goesOn → s.sample.accepts = false → decodeBase (s.sample.peek s.sample.pc) ≠ .prefixCB →
      exactly (stepCount (decodeBase (s.sample.peek s.sample.pc)) s.sample.regs.flags)) ∧
    (s.goesOn → s.sample.accepts = false → decodeBase (s.sample.peek s.sample.pc) = .prefixCB →
      ∃ u, step s = .next u ∧ exactly (decodeCb (u.sample.peek u.sample.pc)).cycles) ∧
    (s.goesOn → s.sample.accepts = true → exactly 5) ∧
    (s.idles → exactly 1)

/-- R143, R154 (the spec's own derivation): an acceptance sequence begins only at an instruction boundary, with IME 1
and an enabled interrupt pending. -/
def Obligations.InterruptsBeginOnlyAtBoundaries : Prop :=
  ∀ (s t : State) (d : Continuation), Inv s → step s = .next t → t.cont = some d → d.routine = .isr →
    (∃ c, s.sample.cont = some c ∧ c.routine = .isr ∧ s.sample.cyclesLeft ≠ 0) ∨
    (s.sample.cyclesLeft = 0 ∧ s.sample.ime = true ∧ s.sample.pending ≠ 0)

/-- R38: IME is set only by the EI delay and by RETI, and cleared only by the acceptance sequence, by DI and by reset.
-/
def Obligations.ImeHasFourWriters : Prop :=
  ∀ s t : State, Inv s → step s = .next t →
    (s.ime = false → t.ime = true →
      (s.delay = true ∧ s.cyclesLeft = 0) ∨ ∃ c, s.cont = some c ∧ c.routine = .instr .reti ∧ c.k = 3) ∧
    (s.ime = true → t.ime = false →
      s.input.reset = true ∨ (∃ d, t.cont = some d ∧ d.routine = .isr ∧ d.k = 1) ∨
      (s.cyclesLeft = 0 ∧ decodeBase (s.sample.peek s.sample.pc) = .di))

/-- R421 (the spec's own derivation): after a HALT that set `haltBug` no interrupt comes first: the next step fetches
the byte after HALT, without advancing PC. -/
def Obligations.HaltBugDoublesTheNextFetch : Prop :=
  ∀ s : State, Inv s → s.haltBug = true → s.input.reset = false →
    s.fetchesNext ∧ s.sample.fetch.pc = s.pc ∧ s.sample.fetch.haltBug = false ∧
    ∃ c, s.sample.fetch.cont = some c ∧ c.opAddr = some s.pc ∧ c.op = some (s.sample.peek s.pc)

/-- Rests on R7 and R70: no step changes the parameters or the collaborator's handlers. That each step uses up one input
of a list and counts one is the model's choice (notes/assumptions/5.md and 10.md, DESIGN CHOICE). -/
def Obligations.ParametersNeverChange : Prop :=
  ∀ s t : State, step s = .next t →
    t.params = s.params ∧ t.busMap = s.busMap ∧ t.inputs = s.inputs.tail ∧ t.clock = s.clock + 1

/-- R48 (the spec's decision D24): `diagLog` is write-only for the block: two states that differ only in it step to
states that differ only in it. -/
def Obligations.DiagnosticsAreNeverRead : Prop :=
  ∀ (s t : State) (log : List (Byte × Word)), step s = .next t →
    ∃ log', step { s with diagLog := log } = .next { t with diagLog := log' }

/-- The last sentence of R237 (the spec's own derivation): PUSH qq then POP qq, at PC and the byte after it, restores
the pair (for AF, with the four flags) and SP, in seven steps, where the stack is memory and does not overwrite the
POP. -/
def Obligations.PushThenPopRestoresThePair : Prop :=
  ∀ (q : StackPair) (s : State), Inv s → s.inputs = [] → s.cyclesLeft = 0 → s.halted = false → s.stopped = false →
    s.ime = false → s.delay = false → s.haltBug = false →
    (∀ a ∈ [s.sp - 1, s.sp - 2], a ≠ 0xFF0F ∧ a ≠ 0xFFFF ∧ a ≠ s.pc + 1 ∧ s.handler a = some .ram) →
    s.handler s.pc ≠ some .device → s.handler (s.pc + 1) ≠ some .device →
    decodeBase (s.peek s.pc) = .ofPush q → decodeBase (s.peek (s.pc + 1)) = .ofPop q →
    ∃ t, Host.Core.run Sys2Proof.core 7 s = .next t ∧ t.regs = s.regs ∧ t.pc = s.pc + 2 ∧ t.cyclesLeft = 0

end Statements
end

