-- ==== Sys2Proof/Laws/Memory.lean ====
section
/-! SUPPORT. The memory contents: what is read after a write, and that every operation on memory keeps the canonical
form. -/

namespace Sys2Proof.Machine

/-- A canonical list that starts later starts later than anything smaller, too. -/
theorem Memory.risesFrom_mono {low low' : Nat} {m : List Host.Cell} (h : Memory.risesFrom low' m = true)
    (hl : low ≤ low') : Memory.risesFrom low m = true := by
  cases m with
  | nil => rfl
  | cons c rest =>
    obtain ⟨a, v⟩ := c
    simp only [Memory.risesFrom, Bool.and_eq_true, decide_eq_true_eq] at h ⊢
    exact ⟨⟨⟨by omega, h.1.1.2⟩, h.1.2⟩, h.2⟩

/-- An address below the first listed one reads as unlisted. -/
theorem Memory.get_below {low a : Nat} {m : List Host.Cell} (h : Memory.risesFrom low m = true) (ha : a < low) :
    Memory.get m a = Memory.unlisted := by
  induction m generalizing low with
  | nil => rfl
  | cons c rest ih =>
    obtain ⟨b, w⟩ := c
    simp only [Memory.risesFrom, Bool.and_eq_true, decide_eq_true_eq] at h
    have hb : b ≠ a := by omega
    simp only [Memory.get, hb, if_false]
    exact ih h.2 (by omega)

/-- The byte stored is the byte read. -/
theorem Memory.get_set_same {low a : Nat} {m : List Host.Cell} (h : Memory.risesFrom low m = true) (v : BitVec 8) :
    Memory.get (Memory.set m a v) a = v := by
  induction m generalizing low with
  | nil => by_cases hv : v = Memory.unlisted <;> simp [Memory.set, Memory.get, hv]
  | cons c rest ih =>
    obtain ⟨b, w⟩ := c
    simp only [Memory.risesFrom, Bool.and_eq_true, decide_eq_true_eq] at h
    have tail : a ≤ b → Memory.get rest a = Memory.unlisted := fun hab => Memory.get_below h.2 (by omega)
    by_cases hv : v = Memory.unlisted
    · by_cases h1 : a < b
      · have hb : b ≠ a := by omega
        simp [Memory.set, Memory.get, h1, hv, hb, tail (by omega)]
      · by_cases h2 : a = b
        · simp [Memory.set, hv, h2, h2 ▸ tail (by omega)]
        · have hb : b ≠ a := fun e => h2 e.symm
          simpa [Memory.set, Memory.get, h1, h2, hb] using ih h.2
    · by_cases h1 : a < b
      · simp [Memory.set, Memory.get, h1, hv]
      · by_cases h2 : a = b
        · simp [Memory.set, Memory.get, hv, h2]
        · have hb : b ≠ a := fun e => h2 e.symm
          simpa [Memory.set, Memory.get, h1, h2, hb] using ih h.2

/-- A store leaves every other address alone. -/
theorem Memory.get_set_other {a x : Nat} (m : List Host.Cell) (v : BitVec 8) (h : x ≠ a) :
    Memory.get (Memory.set m a v) x = Memory.get m x := by
  have ha : a ≠ x := fun e => h e.symm
  induction m with
  | nil => by_cases hv : v = Memory.unlisted <;> simp [Memory.set, Memory.get, hv, ha]
  | cons c rest ih =>
    obtain ⟨b, w⟩ := c
    by_cases h1 : a < b
    · by_cases hv : v = Memory.unlisted <;> simp [Memory.set, Memory.get, h1, hv, ha]
    · by_cases h2 : a = b
      · subst h2
        by_cases hv : v = Memory.unlisted <;> simp [Memory.set, Memory.get, hv, ha]
      · simp only [Memory.set, h1, h2, if_false, Memory.get, ih]

theorem Memory.risesFrom_set {low a : Nat} {m : List Host.Cell} (h : Memory.risesFrom low m = true) (hl : low ≤ a)
    (ha : a < 0x10000) (v : BitVec 8) : Memory.risesFrom low (Memory.set m a v) = true := by
  induction m generalizing low with
  | nil => by_cases hv : v = Memory.unlisted <;> simp [Memory.set, Memory.risesFrom, hv, hl, ha]
  | cons c rest ih =>
    obtain ⟨b, w⟩ := c
    have h' := h
    simp only [Memory.risesFrom, Bool.and_eq_true, decide_eq_true_eq] at h
    by_cases h1 : a < b
    · by_cases hv : v = Memory.unlisted
      · simpa [Memory.set, h1, hv] using h'
      · have : a + 1 ≤ b := h1
        simp [Memory.set, Memory.risesFrom, h1, hv, hl, ha, h.1.1.2, h.1.2, h.2, this]
    · by_cases h2 : a = b
      · by_cases hv : v = Memory.unlisted
        · simpa [Memory.set, h1, h2, hv] using Memory.risesFrom_mono h.2 (by omega)
        · subst h2
          simp [Memory.set, Memory.risesFrom, hv, hl, ha, h.2]
      · have hb : b + 1 ≤ a := by omega
        simp [Memory.set, Memory.risesFrom, h1, h2, h.1.1.1, h.1.1.2, h.1.2, ih h.2 hb]

/-- A store at an address of the 16-bit space keeps the canonical form. -/
theorem Memory.wf_set {m : List Host.Cell} (h : Memory.wf m = true) (a : Word) (v : BitVec 8) :
    Memory.wf (Memory.set m a.toNat v) = true :=
  Memory.risesFrom_set h (Nat.zero_le _) a.isLt v

/-- Every store of the block keeps the canonical form. -/
theorem State.store_wf {s : State} (h : Memory.wf s.mem = true) (a : Word) (v : Byte) :
    Memory.wf (s.store a v).mem = true := by
  unfold State.store
  split
  · exact h
  split
  · exact h
  split
  · exact Memory.wf_set h a v
  · exact h

theorem State.memWrite_wf {s : State} (h : Memory.wf s.mem = true) (a : Word) (v : Byte) :
    Memory.wf (s.memWrite a v).mem = true := State.store_wf h a v

/-- Placing code keeps the canonical form. -/
theorem storeBytes_wf {m : List Host.Cell} (h : Memory.wf m = true) (a : Word) (code : List Byte) :
    Memory.wf (storeBytes m a code) = true := by
  induction code generalizing m a with
  | nil => exact h
  | cons v vs ih => exact ih (Memory.wf_set h a v) (a + 1)

/-- The memory right after reset is in canonical form. -/
theorem reset_memory_wf : Memory.wf State.reset.mem = true := rfl

end Sys2Proof.Machine
end

