-- ==== Sys2Proof/Laws/State.lean ====
section
/-! SUPPORT. One lemma per field of the state and update operation, so that no later proof unfolds a record update; and
the register file read after a write. -/

namespace Sys2Proof.Machine

/-! ### `State.setReg` -/

@[simp] theorem State.setReg_regs (s : State) (r : Reg8) (v : Byte) : (s.setReg r v).regs = s.regs.set r v := rfl
@[simp] theorem State.setReg_pc (s : State) (r : Reg8) (v : Byte) : (s.setReg r v).pc = s.pc := rfl
@[simp] theorem State.setReg_ime (s : State) (r : Reg8) (v : Byte) : (s.setReg r v).ime = s.ime := rfl
@[simp] theorem State.setReg_ie (s : State) (r : Reg8) (v : Byte) : (s.setReg r v).ie = s.ie := rfl
@[simp] theorem State.setReg_ifl (s : State) (r : Reg8) (v : Byte) : (s.setReg r v).ifl = s.ifl := rfl
@[simp] theorem State.setReg_delay (s : State) (r : Reg8) (v : Byte) : (s.setReg r v).delay = s.delay := rfl
@[simp] theorem State.setReg_halted (s : State) (r : Reg8) (v : Byte) : (s.setReg r v).halted = s.halted := rfl
@[simp] theorem State.setReg_stopped (s : State) (r : Reg8) (v : Byte) : (s.setReg r v).stopped = s.stopped := rfl
@[simp] theorem State.setReg_haltBug (s : State) (r : Reg8) (v : Byte) : (s.setReg r v).haltBug = s.haltBug := rfl
@[simp] theorem State.setReg_cyclesLeft (s : State) (r : Reg8) (v : Byte) : (s.setReg r v).cyclesLeft = s.cyclesLeft := rfl
@[simp] theorem State.setReg_pendingVector (s : State) (r : Reg8) (v : Byte) : (s.setReg r v).pendingVector = s.pendingVector := rfl
@[simp] theorem State.setReg_cont (s : State) (r : Reg8) (v : Byte) : (s.setReg r v).cont = s.cont := rfl
@[simp] theorem State.setReg_diagLog (s : State) (r : Reg8) (v : Byte) : (s.setReg r v).diagLog = s.diagLog := rfl
@[simp] theorem State.setReg_mem (s : State) (r : Reg8) (v : Byte) : (s.setReg r v).mem = s.mem := rfl
@[simp] theorem State.setReg_busMap (s : State) (r : Reg8) (v : Byte) : (s.setReg r v).busMap = s.busMap := rfl
@[simp] theorem State.setReg_busLog (s : State) (r : Reg8) (v : Byte) : (s.setReg r v).busLog = s.busLog := rfl
@[simp] theorem State.setReg_clock (s : State) (r : Reg8) (v : Byte) : (s.setReg r v).clock = s.clock := rfl
@[simp] theorem State.setReg_inputs (s : State) (r : Reg8) (v : Byte) : (s.setReg r v).inputs = s.inputs := rfl
@[simp] theorem State.setReg_params (s : State) (r : Reg8) (v : Byte) : (s.setReg r v).params = s.params := rfl

/-! ### `State.setPair` -/

@[simp] theorem State.setPair_regs (s : State) (p : Pair16) (v : Word) : (s.setPair p v).regs = s.regs.setPair p v := rfl
@[simp] theorem State.setPair_pc (s : State) (p : Pair16) (v : Word) : (s.setPair p v).pc = s.pc := rfl
@[simp] theorem State.setPair_ime (s : State) (p : Pair16) (v : Word) : (s.setPair p v).ime = s.ime := rfl
@[simp] theorem State.setPair_ie (s : State) (p : Pair16) (v : Word) : (s.setPair p v).ie = s.ie := rfl
@[simp] theorem State.setPair_ifl (s : State) (p : Pair16) (v : Word) : (s.setPair p v).ifl = s.ifl := rfl
@[simp] theorem State.setPair_delay (s : State) (p : Pair16) (v : Word) : (s.setPair p v).delay = s.delay := rfl
@[simp] theorem State.setPair_halted (s : State) (p : Pair16) (v : Word) : (s.setPair p v).halted = s.halted := rfl
@[simp] theorem State.setPair_stopped (s : State) (p : Pair16) (v : Word) : (s.setPair p v).stopped = s.stopped := rfl
@[simp] theorem State.setPair_haltBug (s : State) (p : Pair16) (v : Word) : (s.setPair p v).haltBug = s.haltBug := rfl
@[simp] theorem State.setPair_cyclesLeft (s : State) (p : Pair16) (v : Word) : (s.setPair p v).cyclesLeft = s.cyclesLeft := rfl
@[simp] theorem State.setPair_pendingVector (s : State) (p : Pair16) (v : Word) : (s.setPair p v).pendingVector = s.pendingVector := rfl
@[simp] theorem State.setPair_cont (s : State) (p : Pair16) (v : Word) : (s.setPair p v).cont = s.cont := rfl
@[simp] theorem State.setPair_diagLog (s : State) (p : Pair16) (v : Word) : (s.setPair p v).diagLog = s.diagLog := rfl
@[simp] theorem State.setPair_mem (s : State) (p : Pair16) (v : Word) : (s.setPair p v).mem = s.mem := rfl
@[simp] theorem State.setPair_busMap (s : State) (p : Pair16) (v : Word) : (s.setPair p v).busMap = s.busMap := rfl
@[simp] theorem State.setPair_busLog (s : State) (p : Pair16) (v : Word) : (s.setPair p v).busLog = s.busLog := rfl
@[simp] theorem State.setPair_clock (s : State) (p : Pair16) (v : Word) : (s.setPair p v).clock = s.clock := rfl
@[simp] theorem State.setPair_inputs (s : State) (p : Pair16) (v : Word) : (s.setPair p v).inputs = s.inputs := rfl
@[simp] theorem State.setPair_params (s : State) (p : Pair16) (v : Word) : (s.setPair p v).params = s.params := rfl

/-! ### `State.setStackPair` -/

@[simp] theorem State.setStackPair_regs (s : State) (q : StackPair) (v : Word) : (s.setStackPair q v).regs = s.regs.setStackPair q v := rfl
@[simp] theorem State.setStackPair_pc (s : State) (q : StackPair) (v : Word) : (s.setStackPair q v).pc = s.pc := rfl
@[simp] theorem State.setStackPair_ime (s : State) (q : StackPair) (v : Word) : (s.setStackPair q v).ime = s.ime := rfl
@[simp] theorem State.setStackPair_ie (s : State) (q : StackPair) (v : Word) : (s.setStackPair q v).ie = s.ie := rfl
@[simp] theorem State.setStackPair_ifl (s : State) (q : StackPair) (v : Word) : (s.setStackPair q v).ifl = s.ifl := rfl
@[simp] theorem State.setStackPair_delay (s : State) (q : StackPair) (v : Word) : (s.setStackPair q v).delay = s.delay := rfl
@[simp] theorem State.setStackPair_halted (s : State) (q : StackPair) (v : Word) : (s.setStackPair q v).halted = s.halted := rfl
@[simp] theorem State.setStackPair_stopped (s : State) (q : StackPair) (v : Word) : (s.setStackPair q v).stopped = s.stopped := rfl
@[simp] theorem State.setStackPair_haltBug (s : State) (q : StackPair) (v : Word) : (s.setStackPair q v).haltBug = s.haltBug := rfl
@[simp] theorem State.setStackPair_cyclesLeft (s : State) (q : StackPair) (v : Word) : (s.setStackPair q v).cyclesLeft = s.cyclesLeft := rfl
@[simp] theorem State.setStackPair_pendingVector (s : State) (q : StackPair) (v : Word) : (s.setStackPair q v).pendingVector = s.pendingVector := rfl
@[simp] theorem State.setStackPair_cont (s : State) (q : StackPair) (v : Word) : (s.setStackPair q v).cont = s.cont := rfl
@[simp] theorem State.setStackPair_diagLog (s : State) (q : StackPair) (v : Word) : (s.setStackPair q v).diagLog = s.diagLog := rfl
@[simp] theorem State.setStackPair_mem (s : State) (q : StackPair) (v : Word) : (s.setStackPair q v).mem = s.mem := rfl
@[simp] theorem State.setStackPair_busMap (s : State) (q : StackPair) (v : Word) : (s.setStackPair q v).busMap = s.busMap := rfl
@[simp] theorem State.setStackPair_busLog (s : State) (q : StackPair) (v : Word) : (s.setStackPair q v).busLog = s.busLog := rfl
@[simp] theorem State.setStackPair_clock (s : State) (q : StackPair) (v : Word) : (s.setStackPair q v).clock = s.clock := rfl
@[simp] theorem State.setStackPair_inputs (s : State) (q : StackPair) (v : Word) : (s.setStackPair q v).inputs = s.inputs := rfl
@[simp] theorem State.setStackPair_params (s : State) (q : StackPair) (v : Word) : (s.setStackPair q v).params = s.params := rfl

/-! ### `State.setSp` -/

@[simp] theorem State.setSp_regs (s : State) (v : Word) : (s.setSp v).regs = { s.regs with sp := v } := rfl
@[simp] theorem State.setSp_pc (s : State) (v : Word) : (s.setSp v).pc = s.pc := rfl
@[simp] theorem State.setSp_ime (s : State) (v : Word) : (s.setSp v).ime = s.ime := rfl
@[simp] theorem State.setSp_ie (s : State) (v : Word) : (s.setSp v).ie = s.ie := rfl
@[simp] theorem State.setSp_ifl (s : State) (v : Word) : (s.setSp v).ifl = s.ifl := rfl
@[simp] theorem State.setSp_delay (s : State) (v : Word) : (s.setSp v).delay = s.delay := rfl
@[simp] theorem State.setSp_halted (s : State) (v : Word) : (s.setSp v).halted = s.halted := rfl
@[simp] theorem State.setSp_stopped (s : State) (v : Word) : (s.setSp v).stopped = s.stopped := rfl
@[simp] theorem State.setSp_haltBug (s : State) (v : Word) : (s.setSp v).haltBug = s.haltBug := rfl
@[simp] theorem State.setSp_cyclesLeft (s : State) (v : Word) : (s.setSp v).cyclesLeft = s.cyclesLeft := rfl
@[simp] theorem State.setSp_pendingVector (s : State) (v : Word) : (s.setSp v).pendingVector = s.pendingVector := rfl
@[simp] theorem State.setSp_cont (s : State) (v : Word) : (s.setSp v).cont = s.cont := rfl
@[simp] theorem State.setSp_diagLog (s : State) (v : Word) : (s.setSp v).diagLog = s.diagLog := rfl
@[simp] theorem State.setSp_mem (s : State) (v : Word) : (s.setSp v).mem = s.mem := rfl
@[simp] theorem State.setSp_busMap (s : State) (v : Word) : (s.setSp v).busMap = s.busMap := rfl
@[simp] theorem State.setSp_busLog (s : State) (v : Word) : (s.setSp v).busLog = s.busLog := rfl
@[simp] theorem State.setSp_clock (s : State) (v : Word) : (s.setSp v).clock = s.clock := rfl
@[simp] theorem State.setSp_inputs (s : State) (v : Word) : (s.setSp v).inputs = s.inputs := rfl
@[simp] theorem State.setSp_params (s : State) (v : Word) : (s.setSp v).params = s.params := rfl

/-! ### `State.setFlags` -/

@[simp] theorem State.setFlags_regs (s : State) (f : Flags) : (s.setFlags f).regs = { s.regs with flags := f } := rfl
@[simp] theorem State.setFlags_pc (s : State) (f : Flags) : (s.setFlags f).pc = s.pc := rfl
@[simp] theorem State.setFlags_ime (s : State) (f : Flags) : (s.setFlags f).ime = s.ime := rfl
@[simp] theorem State.setFlags_ie (s : State) (f : Flags) : (s.setFlags f).ie = s.ie := rfl
@[simp] theorem State.setFlags_ifl (s : State) (f : Flags) : (s.setFlags f).ifl = s.ifl := rfl
@[simp] theorem State.setFlags_delay (s : State) (f : Flags) : (s.setFlags f).delay = s.delay := rfl
@[simp] theorem State.setFlags_halted (s : State) (f : Flags) : (s.setFlags f).halted = s.halted := rfl
@[simp] theorem State.setFlags_stopped (s : State) (f : Flags) : (s.setFlags f).stopped = s.stopped := rfl
@[simp] theorem State.setFlags_haltBug (s : State) (f : Flags) : (s.setFlags f).haltBug = s.haltBug := rfl
@[simp] theorem State.setFlags_cyclesLeft (s : State) (f : Flags) : (s.setFlags f).cyclesLeft = s.cyclesLeft := rfl
@[simp] theorem State.setFlags_pendingVector (s : State) (f : Flags) : (s.setFlags f).pendingVector = s.pendingVector := rfl
@[simp] theorem State.setFlags_cont (s : State) (f : Flags) : (s.setFlags f).cont = s.cont := rfl
@[simp] theorem State.setFlags_diagLog (s : State) (f : Flags) : (s.setFlags f).diagLog = s.diagLog := rfl
@[simp] theorem State.setFlags_mem (s : State) (f : Flags) : (s.setFlags f).mem = s.mem := rfl
@[simp] theorem State.setFlags_busMap (s : State) (f : Flags) : (s.setFlags f).busMap = s.busMap := rfl
@[simp] theorem State.setFlags_busLog (s : State) (f : Flags) : (s.setFlags f).busLog = s.busLog := rfl
@[simp] theorem State.setFlags_clock (s : State) (f : Flags) : (s.setFlags f).clock = s.clock := rfl
@[simp] theorem State.setFlags_inputs (s : State) (f : Flags) : (s.setFlags f).inputs = s.inputs := rfl
@[simp] theorem State.setFlags_params (s : State) (f : Flags) : (s.setFlags f).params = s.params := rfl

/-! ### `State.setResult` -/

@[simp] theorem State.setResult_regs (s : State) (r : Reg8) (x : Byte × Flags) : (s.setResult r x).regs = { s.regs.set r x.1 with flags := x.2 } := rfl
@[simp] theorem State.setResult_pc (s : State) (r : Reg8) (x : Byte × Flags) : (s.setResult r x).pc = s.pc := rfl
@[simp] theorem State.setResult_ime (s : State) (r : Reg8) (x : Byte × Flags) : (s.setResult r x).ime = s.ime := rfl
@[simp] theorem State.setResult_ie (s : State) (r : Reg8) (x : Byte × Flags) : (s.setResult r x).ie = s.ie := rfl
@[simp] theorem State.setResult_ifl (s : State) (r : Reg8) (x : Byte × Flags) : (s.setResult r x).ifl = s.ifl := rfl
@[simp] theorem State.setResult_delay (s : State) (r : Reg8) (x : Byte × Flags) : (s.setResult r x).delay = s.delay := rfl
@[simp] theorem State.setResult_halted (s : State) (r : Reg8) (x : Byte × Flags) : (s.setResult r x).halted = s.halted := rfl
@[simp] theorem State.setResult_stopped (s : State) (r : Reg8) (x : Byte × Flags) : (s.setResult r x).stopped = s.stopped := rfl
@[simp] theorem State.setResult_haltBug (s : State) (r : Reg8) (x : Byte × Flags) : (s.setResult r x).haltBug = s.haltBug := rfl
@[simp] theorem State.setResult_cyclesLeft (s : State) (r : Reg8) (x : Byte × Flags) : (s.setResult r x).cyclesLeft = s.cyclesLeft := rfl
@[simp] theorem State.setResult_pendingVector (s : State) (r : Reg8) (x : Byte × Flags) : (s.setResult r x).pendingVector = s.pendingVector := rfl
@[simp] theorem State.setResult_cont (s : State) (r : Reg8) (x : Byte × Flags) : (s.setResult r x).cont = s.cont := rfl
@[simp] theorem State.setResult_diagLog (s : State) (r : Reg8) (x : Byte × Flags) : (s.setResult r x).diagLog = s.diagLog := rfl
@[simp] theorem State.setResult_mem (s : State) (r : Reg8) (x : Byte × Flags) : (s.setResult r x).mem = s.mem := rfl
@[simp] theorem State.setResult_busMap (s : State) (r : Reg8) (x : Byte × Flags) : (s.setResult r x).busMap = s.busMap := rfl
@[simp] theorem State.setResult_busLog (s : State) (r : Reg8) (x : Byte × Flags) : (s.setResult r x).busLog = s.busLog := rfl
@[simp] theorem State.setResult_clock (s : State) (r : Reg8) (x : Byte × Flags) : (s.setResult r x).clock = s.clock := rfl
@[simp] theorem State.setResult_inputs (s : State) (r : Reg8) (x : Byte × Flags) : (s.setResult r x).inputs = s.inputs := rfl
@[simp] theorem State.setResult_params (s : State) (r : Reg8) (x : Byte × Flags) : (s.setResult r x).params = s.params := rfl

/-! ### `State.setPc` -/

@[simp] theorem State.setPc_regs (s : State) (v : Word) : (s.setPc v).regs = s.regs := rfl
@[simp] theorem State.setPc_pc (s : State) (v : Word) : (s.setPc v).pc = v := rfl
@[simp] theorem State.setPc_ime (s : State) (v : Word) : (s.setPc v).ime = s.ime := rfl
@[simp] theorem State.setPc_ie (s : State) (v : Word) : (s.setPc v).ie = s.ie := rfl
@[simp] theorem State.setPc_ifl (s : State) (v : Word) : (s.setPc v).ifl = s.ifl := rfl
@[simp] theorem State.setPc_delay (s : State) (v : Word) : (s.setPc v).delay = s.delay := rfl
@[simp] theorem State.setPc_halted (s : State) (v : Word) : (s.setPc v).halted = s.halted := rfl
@[simp] theorem State.setPc_stopped (s : State) (v : Word) : (s.setPc v).stopped = s.stopped := rfl
@[simp] theorem State.setPc_haltBug (s : State) (v : Word) : (s.setPc v).haltBug = s.haltBug := rfl
@[simp] theorem State.setPc_cyclesLeft (s : State) (v : Word) : (s.setPc v).cyclesLeft = s.cyclesLeft := rfl
@[simp] theorem State.setPc_pendingVector (s : State) (v : Word) : (s.setPc v).pendingVector = s.pendingVector := rfl
@[simp] theorem State.setPc_cont (s : State) (v : Word) : (s.setPc v).cont = s.cont := rfl
@[simp] theorem State.setPc_diagLog (s : State) (v : Word) : (s.setPc v).diagLog = s.diagLog := rfl
@[simp] theorem State.setPc_mem (s : State) (v : Word) : (s.setPc v).mem = s.mem := rfl
@[simp] theorem State.setPc_busMap (s : State) (v : Word) : (s.setPc v).busMap = s.busMap := rfl
@[simp] theorem State.setPc_busLog (s : State) (v : Word) : (s.setPc v).busLog = s.busLog := rfl
@[simp] theorem State.setPc_clock (s : State) (v : Word) : (s.setPc v).clock = s.clock := rfl
@[simp] theorem State.setPc_inputs (s : State) (v : Word) : (s.setPc v).inputs = s.inputs := rfl
@[simp] theorem State.setPc_params (s : State) (v : Word) : (s.setPc v).params = s.params := rfl

/-! ### `State.onCont` -/

@[simp] theorem State.onCont_regs (s : State) (f : Continuation → Continuation) : (s.onCont f).regs = s.regs := rfl
@[simp] theorem State.onCont_pc (s : State) (f : Continuation → Continuation) : (s.onCont f).pc = s.pc := rfl
@[simp] theorem State.onCont_ime (s : State) (f : Continuation → Continuation) : (s.onCont f).ime = s.ime := rfl
@[simp] theorem State.onCont_ie (s : State) (f : Continuation → Continuation) : (s.onCont f).ie = s.ie := rfl
@[simp] theorem State.onCont_ifl (s : State) (f : Continuation → Continuation) : (s.onCont f).ifl = s.ifl := rfl
@[simp] theorem State.onCont_delay (s : State) (f : Continuation → Continuation) : (s.onCont f).delay = s.delay := rfl
@[simp] theorem State.onCont_halted (s : State) (f : Continuation → Continuation) : (s.onCont f).halted = s.halted := rfl
@[simp] theorem State.onCont_stopped (s : State) (f : Continuation → Continuation) : (s.onCont f).stopped = s.stopped := rfl
@[simp] theorem State.onCont_haltBug (s : State) (f : Continuation → Continuation) : (s.onCont f).haltBug = s.haltBug := rfl
@[simp] theorem State.onCont_cyclesLeft (s : State) (f : Continuation → Continuation) : (s.onCont f).cyclesLeft = s.cyclesLeft := rfl
@[simp] theorem State.onCont_pendingVector (s : State) (f : Continuation → Continuation) : (s.onCont f).pendingVector = s.pendingVector := rfl
@[simp] theorem State.onCont_cont (s : State) (f : Continuation → Continuation) : (s.onCont f).cont = s.cont.map f := rfl
@[simp] theorem State.onCont_diagLog (s : State) (f : Continuation → Continuation) : (s.onCont f).diagLog = s.diagLog := rfl
@[simp] theorem State.onCont_mem (s : State) (f : Continuation → Continuation) : (s.onCont f).mem = s.mem := rfl
@[simp] theorem State.onCont_busMap (s : State) (f : Continuation → Continuation) : (s.onCont f).busMap = s.busMap := rfl
@[simp] theorem State.onCont_busLog (s : State) (f : Continuation → Continuation) : (s.onCont f).busLog = s.busLog := rfl
@[simp] theorem State.onCont_clock (s : State) (f : Continuation → Continuation) : (s.onCont f).clock = s.clock := rfl
@[simp] theorem State.onCont_inputs (s : State) (f : Continuation → Continuation) : (s.onCont f).inputs = s.inputs := rfl
@[simp] theorem State.onCont_params (s : State) (f : Continuation → Continuation) : (s.onCont f).params = s.params := rfl

/-! ### `State.setTmp` -/

@[simp] theorem State.setTmp_regs (s : State) (v : Byte) : (s.setTmp v).regs = s.regs := rfl
@[simp] theorem State.setTmp_pc (s : State) (v : Byte) : (s.setTmp v).pc = s.pc := rfl
@[simp] theorem State.setTmp_ime (s : State) (v : Byte) : (s.setTmp v).ime = s.ime := rfl
@[simp] theorem State.setTmp_ie (s : State) (v : Byte) : (s.setTmp v).ie = s.ie := rfl
@[simp] theorem State.setTmp_ifl (s : State) (v : Byte) : (s.setTmp v).ifl = s.ifl := rfl
@[simp] theorem State.setTmp_delay (s : State) (v : Byte) : (s.setTmp v).delay = s.delay := rfl
@[simp] theorem State.setTmp_halted (s : State) (v : Byte) : (s.setTmp v).halted = s.halted := rfl
@[simp] theorem State.setTmp_stopped (s : State) (v : Byte) : (s.setTmp v).stopped = s.stopped := rfl
@[simp] theorem State.setTmp_haltBug (s : State) (v : Byte) : (s.setTmp v).haltBug = s.haltBug := rfl
@[simp] theorem State.setTmp_cyclesLeft (s : State) (v : Byte) : (s.setTmp v).cyclesLeft = s.cyclesLeft := rfl
@[simp] theorem State.setTmp_pendingVector (s : State) (v : Byte) : (s.setTmp v).pendingVector = s.pendingVector := rfl
@[simp] theorem State.setTmp_cont (s : State) (v : Byte) : (s.setTmp v).cont = s.cont.map fun c => { c with tmp := some v } := rfl
@[simp] theorem State.setTmp_diagLog (s : State) (v : Byte) : (s.setTmp v).diagLog = s.diagLog := rfl
@[simp] theorem State.setTmp_mem (s : State) (v : Byte) : (s.setTmp v).mem = s.mem := rfl
@[simp] theorem State.setTmp_busMap (s : State) (v : Byte) : (s.setTmp v).busMap = s.busMap := rfl
@[simp] theorem State.setTmp_busLog (s : State) (v : Byte) : (s.setTmp v).busLog = s.busLog := rfl
@[simp] theorem State.setTmp_clock (s : State) (v : Byte) : (s.setTmp v).clock = s.clock := rfl
@[simp] theorem State.setTmp_inputs (s : State) (v : Byte) : (s.setTmp v).inputs = s.inputs := rfl
@[simp] theorem State.setTmp_params (s : State) (v : Byte) : (s.setTmp v).params = s.params := rfl

/-! ### `State.setLo` -/

@[simp] theorem State.setLo_regs (s : State) (v : Byte) : (s.setLo v).regs = s.regs := rfl
@[simp] theorem State.setLo_pc (s : State) (v : Byte) : (s.setLo v).pc = s.pc := rfl
@[simp] theorem State.setLo_ime (s : State) (v : Byte) : (s.setLo v).ime = s.ime := rfl
@[simp] theorem State.setLo_ie (s : State) (v : Byte) : (s.setLo v).ie = s.ie := rfl
@[simp] theorem State.setLo_ifl (s : State) (v : Byte) : (s.setLo v).ifl = s.ifl := rfl
@[simp] theorem State.setLo_delay (s : State) (v : Byte) : (s.setLo v).delay = s.delay := rfl
@[simp] theorem State.setLo_halted (s : State) (v : Byte) : (s.setLo v).halted = s.halted := rfl
@[simp] theorem State.setLo_stopped (s : State) (v : Byte) : (s.setLo v).stopped = s.stopped := rfl
@[simp] theorem State.setLo_haltBug (s : State) (v : Byte) : (s.setLo v).haltBug = s.haltBug := rfl
@[simp] theorem State.setLo_cyclesLeft (s : State) (v : Byte) : (s.setLo v).cyclesLeft = s.cyclesLeft := rfl
@[simp] theorem State.setLo_pendingVector (s : State) (v : Byte) : (s.setLo v).pendingVector = s.pendingVector := rfl
@[simp] theorem State.setLo_cont (s : State) (v : Byte) : (s.setLo v).cont = s.cont.map fun c => { c with lo := some v } := rfl
@[simp] theorem State.setLo_diagLog (s : State) (v : Byte) : (s.setLo v).diagLog = s.diagLog := rfl
@[simp] theorem State.setLo_mem (s : State) (v : Byte) : (s.setLo v).mem = s.mem := rfl
@[simp] theorem State.setLo_busMap (s : State) (v : Byte) : (s.setLo v).busMap = s.busMap := rfl
@[simp] theorem State.setLo_busLog (s : State) (v : Byte) : (s.setLo v).busLog = s.busLog := rfl
@[simp] theorem State.setLo_clock (s : State) (v : Byte) : (s.setLo v).clock = s.clock := rfl
@[simp] theorem State.setLo_inputs (s : State) (v : Byte) : (s.setLo v).inputs = s.inputs := rfl
@[simp] theorem State.setLo_params (s : State) (v : Byte) : (s.setLo v).params = s.params := rfl

/-! ### `State.setHi` -/

@[simp] theorem State.setHi_regs (s : State) (v : Byte) : (s.setHi v).regs = s.regs := rfl
@[simp] theorem State.setHi_pc (s : State) (v : Byte) : (s.setHi v).pc = s.pc := rfl
@[simp] theorem State.setHi_ime (s : State) (v : Byte) : (s.setHi v).ime = s.ime := rfl
@[simp] theorem State.setHi_ie (s : State) (v : Byte) : (s.setHi v).ie = s.ie := rfl
@[simp] theorem State.setHi_ifl (s : State) (v : Byte) : (s.setHi v).ifl = s.ifl := rfl
@[simp] theorem State.setHi_delay (s : State) (v : Byte) : (s.setHi v).delay = s.delay := rfl
@[simp] theorem State.setHi_halted (s : State) (v : Byte) : (s.setHi v).halted = s.halted := rfl
@[simp] theorem State.setHi_stopped (s : State) (v : Byte) : (s.setHi v).stopped = s.stopped := rfl
@[simp] theorem State.setHi_haltBug (s : State) (v : Byte) : (s.setHi v).haltBug = s.haltBug := rfl
@[simp] theorem State.setHi_cyclesLeft (s : State) (v : Byte) : (s.setHi v).cyclesLeft = s.cyclesLeft := rfl
@[simp] theorem State.setHi_pendingVector (s : State) (v : Byte) : (s.setHi v).pendingVector = s.pendingVector := rfl
@[simp] theorem State.setHi_cont (s : State) (v : Byte) : (s.setHi v).cont = s.cont.map fun c => { c with hi := some v } := rfl
@[simp] theorem State.setHi_diagLog (s : State) (v : Byte) : (s.setHi v).diagLog = s.diagLog := rfl
@[simp] theorem State.setHi_mem (s : State) (v : Byte) : (s.setHi v).mem = s.mem := rfl
@[simp] theorem State.setHi_busMap (s : State) (v : Byte) : (s.setHi v).busMap = s.busMap := rfl
@[simp] theorem State.setHi_busLog (s : State) (v : Byte) : (s.setHi v).busLog = s.busLog := rfl
@[simp] theorem State.setHi_clock (s : State) (v : Byte) : (s.setHi v).clock = s.clock := rfl
@[simp] theorem State.setHi_inputs (s : State) (v : Byte) : (s.setHi v).inputs = s.inputs := rfl
@[simp] theorem State.setHi_params (s : State) (v : Byte) : (s.setHi v).params = s.params := rfl

/-! ### `State.addCycles` -/

@[simp] theorem State.addCycles_regs (s : State) (n : Nat) : (s.addCycles n).regs = s.regs := rfl
@[simp] theorem State.addCycles_pc (s : State) (n : Nat) : (s.addCycles n).pc = s.pc := rfl
@[simp] theorem State.addCycles_ime (s : State) (n : Nat) : (s.addCycles n).ime = s.ime := rfl
@[simp] theorem State.addCycles_ie (s : State) (n : Nat) : (s.addCycles n).ie = s.ie := rfl
@[simp] theorem State.addCycles_ifl (s : State) (n : Nat) : (s.addCycles n).ifl = s.ifl := rfl
@[simp] theorem State.addCycles_delay (s : State) (n : Nat) : (s.addCycles n).delay = s.delay := rfl
@[simp] theorem State.addCycles_halted (s : State) (n : Nat) : (s.addCycles n).halted = s.halted := rfl
@[simp] theorem State.addCycles_stopped (s : State) (n : Nat) : (s.addCycles n).stopped = s.stopped := rfl
@[simp] theorem State.addCycles_haltBug (s : State) (n : Nat) : (s.addCycles n).haltBug = s.haltBug := rfl
@[simp] theorem State.addCycles_cyclesLeft (s : State) (n : Nat) : (s.addCycles n).cyclesLeft = s.cyclesLeft + n := rfl
@[simp] theorem State.addCycles_pendingVector (s : State) (n : Nat) : (s.addCycles n).pendingVector = s.pendingVector := rfl
@[simp] theorem State.addCycles_cont (s : State) (n : Nat) : (s.addCycles n).cont = s.cont := rfl
@[simp] theorem State.addCycles_diagLog (s : State) (n : Nat) : (s.addCycles n).diagLog = s.diagLog := rfl
@[simp] theorem State.addCycles_mem (s : State) (n : Nat) : (s.addCycles n).mem = s.mem := rfl
@[simp] theorem State.addCycles_busMap (s : State) (n : Nat) : (s.addCycles n).busMap = s.busMap := rfl
@[simp] theorem State.addCycles_busLog (s : State) (n : Nat) : (s.addCycles n).busLog = s.busLog := rfl
@[simp] theorem State.addCycles_clock (s : State) (n : Nat) : (s.addCycles n).clock = s.clock := rfl
@[simp] theorem State.addCycles_inputs (s : State) (n : Nat) : (s.addCycles n).inputs = s.inputs := rfl
@[simp] theorem State.addCycles_params (s : State) (n : Nat) : (s.addCycles n).params = s.params := rfl

/-! ### `State.noteRead` -/

@[simp] theorem State.noteRead_regs (s : State) (a : Word) : (s.noteRead a).regs = s.regs := rfl
@[simp] theorem State.noteRead_pc (s : State) (a : Word) : (s.noteRead a).pc = s.pc := rfl
@[simp] theorem State.noteRead_ime (s : State) (a : Word) : (s.noteRead a).ime = s.ime := rfl
@[simp] theorem State.noteRead_ie (s : State) (a : Word) : (s.noteRead a).ie = s.ie := rfl
@[simp] theorem State.noteRead_ifl (s : State) (a : Word) : (s.noteRead a).ifl = s.ifl := rfl
@[simp] theorem State.noteRead_delay (s : State) (a : Word) : (s.noteRead a).delay = s.delay := rfl
@[simp] theorem State.noteRead_halted (s : State) (a : Word) : (s.noteRead a).halted = s.halted := rfl
@[simp] theorem State.noteRead_stopped (s : State) (a : Word) : (s.noteRead a).stopped = s.stopped := rfl
@[simp] theorem State.noteRead_haltBug (s : State) (a : Word) : (s.noteRead a).haltBug = s.haltBug := rfl
@[simp] theorem State.noteRead_cyclesLeft (s : State) (a : Word) : (s.noteRead a).cyclesLeft = s.cyclesLeft := rfl
@[simp] theorem State.noteRead_pendingVector (s : State) (a : Word) : (s.noteRead a).pendingVector = s.pendingVector := rfl
@[simp] theorem State.noteRead_cont (s : State) (a : Word) : (s.noteRead a).cont = s.cont := rfl
@[simp] theorem State.noteRead_diagLog (s : State) (a : Word) : (s.noteRead a).diagLog = s.diagLog := rfl
@[simp] theorem State.noteRead_mem (s : State) (a : Word) : (s.noteRead a).mem = s.mem := rfl
@[simp] theorem State.noteRead_busMap (s : State) (a : Word) : (s.noteRead a).busMap = s.busMap := rfl
@[simp] theorem State.noteRead_busLog (s : State) (a : Word) : (s.noteRead a).busLog = ⟨s.clock, .read, a, s.peek a⟩ :: s.busLog := rfl
@[simp] theorem State.noteRead_clock (s : State) (a : Word) : (s.noteRead a).clock = s.clock := rfl
@[simp] theorem State.noteRead_inputs (s : State) (a : Word) : (s.noteRead a).inputs = s.inputs := rfl
@[simp] theorem State.noteRead_params (s : State) (a : Word) : (s.noteRead a).params = s.params := rfl

/-! ### `State.branchIf` -/

@[simp] theorem State.branchIf_regs (s : State) (cc : Cond) (n : Nat) : (s.branchIf cc n).regs = s.regs := by
  unfold State.branchIf; split <;> rfl
@[simp] theorem State.branchIf_pc (s : State) (cc : Cond) (n : Nat) : (s.branchIf cc n).pc = s.pc := by
  unfold State.branchIf; split <;> rfl
@[simp] theorem State.branchIf_ime (s : State) (cc : Cond) (n : Nat) : (s.branchIf cc n).ime = s.ime := by
  unfold State.branchIf; split <;> rfl
@[simp] theorem State.branchIf_ie (s : State) (cc : Cond) (n : Nat) : (s.branchIf cc n).ie = s.ie := by
  unfold State.branchIf; split <;> rfl
@[simp] theorem State.branchIf_ifl (s : State) (cc : Cond) (n : Nat) : (s.branchIf cc n).ifl = s.ifl := by
  unfold State.branchIf; split <;> rfl
@[simp] theorem State.branchIf_delay (s : State) (cc : Cond) (n : Nat) : (s.branchIf cc n).delay = s.delay := by
  unfold State.branchIf; split <;> rfl
@[simp] theorem State.branchIf_halted (s : State) (cc : Cond) (n : Nat) : (s.branchIf cc n).halted = s.halted := by
  unfold State.branchIf; split <;> rfl
@[simp] theorem State.branchIf_stopped (s : State) (cc : Cond) (n : Nat) : (s.branchIf cc n).stopped = s.stopped := by
  unfold State.branchIf; split <;> rfl
@[simp] theorem State.branchIf_haltBug (s : State) (cc : Cond) (n : Nat) : (s.branchIf cc n).haltBug = s.haltBug := by
  unfold State.branchIf; split <;> rfl
theorem State.branchIf_cyclesLeft (s : State) (cc : Cond) (n : Nat) :
    (s.branchIf cc n).cyclesLeft = s.cyclesLeft + if s.cond cc then n else 0 := by
  unfold State.branchIf; split <;> simp
@[simp] theorem State.branchIf_pendingVector (s : State) (cc : Cond) (n : Nat) : (s.branchIf cc n).pendingVector = s.pendingVector := by
  unfold State.branchIf; split <;> rfl
@[simp] theorem State.branchIf_cont (s : State) (cc : Cond) (n : Nat) : (s.branchIf cc n).cont = s.cont := by
  unfold State.branchIf; split <;> rfl
@[simp] theorem State.branchIf_diagLog (s : State) (cc : Cond) (n : Nat) : (s.branchIf cc n).diagLog = s.diagLog := by
  unfold State.branchIf; split <;> rfl
@[simp] theorem State.branchIf_mem (s : State) (cc : Cond) (n : Nat) : (s.branchIf cc n).mem = s.mem := by
  unfold State.branchIf; split <;> rfl
@[simp] theorem State.branchIf_busMap (s : State) (cc : Cond) (n : Nat) : (s.branchIf cc n).busMap = s.busMap := by
  unfold State.branchIf; split <;> rfl
@[simp] theorem State.branchIf_busLog (s : State) (cc : Cond) (n : Nat) : (s.branchIf cc n).busLog = s.busLog := by
  unfold State.branchIf; split <;> rfl
@[simp] theorem State.branchIf_clock (s : State) (cc : Cond) (n : Nat) : (s.branchIf cc n).clock = s.clock := by
  unfold State.branchIf; split <;> rfl
@[simp] theorem State.branchIf_inputs (s : State) (cc : Cond) (n : Nat) : (s.branchIf cc n).inputs = s.inputs := by
  unfold State.branchIf; split <;> rfl
@[simp] theorem State.branchIf_params (s : State) (cc : Cond) (n : Nat) : (s.branchIf cc n).params = s.params := by
  unfold State.branchIf; split <;> rfl

/-! ### Stores: the fields a store cannot reach -/

@[simp] theorem State.store_regs (s : State) (a : Word) (v : Byte) : (s.store a v).regs = s.regs := by
  unfold State.store; split; · rfl
  split; · rfl
  split <;> rfl
@[simp] theorem State.store_pc (s : State) (a : Word) (v : Byte) : (s.store a v).pc = s.pc := by
  unfold State.store; split; · rfl
  split; · rfl
  split <;> rfl
@[simp] theorem State.store_ime (s : State) (a : Word) (v : Byte) : (s.store a v).ime = s.ime := by
  unfold State.store; split; · rfl
  split; · rfl
  split <;> rfl
@[simp] theorem State.store_delay (s : State) (a : Word) (v : Byte) : (s.store a v).delay = s.delay := by
  unfold State.store; split; · rfl
  split; · rfl
  split <;> rfl
@[simp] theorem State.store_halted (s : State) (a : Word) (v : Byte) : (s.store a v).halted = s.halted := by
  unfold State.store; split; · rfl
  split; · rfl
  split <;> rfl
@[simp] theorem State.store_stopped (s : State) (a : Word) (v : Byte) : (s.store a v).stopped = s.stopped := by
  unfold State.store; split; · rfl
  split; · rfl
  split <;> rfl
@[simp] theorem State.store_haltBug (s : State) (a : Word) (v : Byte) : (s.store a v).haltBug = s.haltBug := by
  unfold State.store; split; · rfl
  split; · rfl
  split <;> rfl
@[simp] theorem State.store_cyclesLeft (s : State) (a : Word) (v : Byte) : (s.store a v).cyclesLeft = s.cyclesLeft := by
  unfold State.store; split; · rfl
  split; · rfl
  split <;> rfl
@[simp] theorem State.store_pendingVector (s : State) (a : Word) (v : Byte) : (s.store a v).pendingVector = s.pendingVector := by
  unfold State.store; split; · rfl
  split; · rfl
  split <;> rfl
@[simp] theorem State.store_cont (s : State) (a : Word) (v : Byte) : (s.store a v).cont = s.cont := by
  unfold State.store; split; · rfl
  split; · rfl
  split <;> rfl
@[simp] theorem State.store_diagLog (s : State) (a : Word) (v : Byte) : (s.store a v).diagLog = s.diagLog := by
  unfold State.store; split; · rfl
  split; · rfl
  split <;> rfl
@[simp] theorem State.store_busMap (s : State) (a : Word) (v : Byte) : (s.store a v).busMap = s.busMap := by
  unfold State.store; split; · rfl
  split; · rfl
  split <;> rfl
@[simp] theorem State.store_busLog (s : State) (a : Word) (v : Byte) : (s.store a v).busLog = s.busLog := by
  unfold State.store; split; · rfl
  split; · rfl
  split <;> rfl
@[simp] theorem State.store_clock (s : State) (a : Word) (v : Byte) : (s.store a v).clock = s.clock := by
  unfold State.store; split; · rfl
  split; · rfl
  split <;> rfl
@[simp] theorem State.store_inputs (s : State) (a : Word) (v : Byte) : (s.store a v).inputs = s.inputs := by
  unfold State.store; split; · rfl
  split; · rfl
  split <;> rfl
@[simp] theorem State.store_params (s : State) (a : Word) (v : Byte) : (s.store a v).params = s.params := by
  unfold State.store; split; · rfl
  split; · rfl
  split <;> rfl
@[simp] theorem State.memWrite_regs (s : State) (a : Word) (v : Byte) : (s.memWrite a v).regs = s.regs := State.store_regs s a v
@[simp] theorem State.memWrite_pc (s : State) (a : Word) (v : Byte) : (s.memWrite a v).pc = s.pc := State.store_pc s a v
@[simp] theorem State.memWrite_ime (s : State) (a : Word) (v : Byte) : (s.memWrite a v).ime = s.ime := State.store_ime s a v
@[simp] theorem State.memWrite_delay (s : State) (a : Word) (v : Byte) : (s.memWrite a v).delay = s.delay := State.store_delay s a v
@[simp] theorem State.memWrite_halted (s : State) (a : Word) (v : Byte) : (s.memWrite a v).halted = s.halted := State.store_halted s a v
@[simp] theorem State.memWrite_stopped (s : State) (a : Word) (v : Byte) : (s.memWrite a v).stopped = s.stopped := State.store_stopped s a v
@[simp] theorem State.memWrite_haltBug (s : State) (a : Word) (v : Byte) : (s.memWrite a v).haltBug = s.haltBug := State.store_haltBug s a v
@[simp] theorem State.memWrite_cyclesLeft (s : State) (a : Word) (v : Byte) : (s.memWrite a v).cyclesLeft = s.cyclesLeft := State.store_cyclesLeft s a v
@[simp] theorem State.memWrite_pendingVector (s : State) (a : Word) (v : Byte) : (s.memWrite a v).pendingVector = s.pendingVector := State.store_pendingVector s a v
@[simp] theorem State.memWrite_cont (s : State) (a : Word) (v : Byte) : (s.memWrite a v).cont = s.cont := State.store_cont s a v
@[simp] theorem State.memWrite_diagLog (s : State) (a : Word) (v : Byte) : (s.memWrite a v).diagLog = s.diagLog := State.store_diagLog s a v
@[simp] theorem State.memWrite_busMap (s : State) (a : Word) (v : Byte) : (s.memWrite a v).busMap = s.busMap := State.store_busMap s a v
@[simp] theorem State.memWrite_busLog (s : State) (a : Word) (v : Byte) :
    (s.memWrite a v).busLog = ⟨s.clock, .write, a, v⟩ :: s.busLog := rfl
@[simp] theorem State.memWrite_clock (s : State) (a : Word) (v : Byte) : (s.memWrite a v).clock = s.clock := State.store_clock s a v
@[simp] theorem State.memWrite_inputs (s : State) (a : Word) (v : Byte) : (s.memWrite a v).inputs = s.inputs := State.store_inputs s a v
@[simp] theorem State.memWrite_params (s : State) (a : Word) (v : Byte) : (s.memWrite a v).params = s.params := State.store_params s a v

@[simp] theorem State.memWrite_mem (s : State) (a : Word) (v : Byte) : (s.memWrite a v).mem = (s.store a v).mem := rfl
@[simp] theorem State.memWrite_ie (s : State) (a : Word) (v : Byte) : (s.memWrite a v).ie = (s.store a v).ie := rfl
@[simp] theorem State.memWrite_ifl (s : State) (a : Word) (v : Byte) : (s.memWrite a v).ifl = (s.store a v).ifl := rfl

/-! ### Operands and bus answers of an updated state -/

@[simp] theorem State.setReg_peek (s : State) (r : Reg8) (v : Byte) (y : Word) : (s.setReg r v).peek y = s.peek y := rfl
@[simp] theorem State.setReg_content (s : State) (r : Reg8) (v : Byte) (y : Word) : (s.setReg r v).content y = s.content y := rfl
@[simp] theorem State.setReg_handler (s : State) (r : Reg8) (v : Byte) (y : Word) : (s.setReg r v).handler y = s.handler y := rfl
@[simp] theorem State.setReg_pending (s : State) (r : Reg8) (v : Byte) : (s.setReg r v).pending = s.pending := rfl
@[simp] theorem State.setPair_peek (s : State) (p : Pair16) (v : Word) (y : Word) : (s.setPair p v).peek y = s.peek y := rfl
@[simp] theorem State.setPair_content (s : State) (p : Pair16) (v : Word) (y : Word) : (s.setPair p v).content y = s.content y := rfl
@[simp] theorem State.setPair_handler (s : State) (p : Pair16) (v : Word) (y : Word) : (s.setPair p v).handler y = s.handler y := rfl
@[simp] theorem State.setPair_pending (s : State) (p : Pair16) (v : Word) : (s.setPair p v).pending = s.pending := rfl
@[simp] theorem State.setStackPair_peek (s : State) (q : StackPair) (v : Word) (y : Word) : (s.setStackPair q v).peek y = s.peek y := rfl
@[simp] theorem State.setStackPair_content (s : State) (q : StackPair) (v : Word) (y : Word) : (s.setStackPair q v).content y = s.content y := rfl
@[simp] theorem State.setStackPair_handler (s : State) (q : StackPair) (v : Word) (y : Word) : (s.setStackPair q v).handler y = s.handler y := rfl
@[simp] theorem State.setStackPair_pending (s : State) (q : StackPair) (v : Word) : (s.setStackPair q v).pending = s.pending := rfl
@[simp] theorem State.setSp_peek (s : State) (v : Word) (y : Word) : (s.setSp v).peek y = s.peek y := rfl
@[simp] theorem State.setSp_content (s : State) (v : Word) (y : Word) : (s.setSp v).content y = s.content y := rfl
@[simp] theorem State.setSp_handler (s : State) (v : Word) (y : Word) : (s.setSp v).handler y = s.handler y := rfl
@[simp] theorem State.setSp_pending (s : State) (v : Word) : (s.setSp v).pending = s.pending := rfl
@[simp] theorem State.setFlags_peek (s : State) (f : Flags) (y : Word) : (s.setFlags f).peek y = s.peek y := rfl
@[simp] theorem State.setFlags_content (s : State) (f : Flags) (y : Word) : (s.setFlags f).content y = s.content y := rfl
@[simp] theorem State.setFlags_handler (s : State) (f : Flags) (y : Word) : (s.setFlags f).handler y = s.handler y := rfl
@[simp] theorem State.setFlags_pending (s : State) (f : Flags) : (s.setFlags f).pending = s.pending := rfl
@[simp] theorem State.setResult_peek (s : State) (r : Reg8) (x : Byte × Flags) (y : Word) : (s.setResult r x).peek y = s.peek y := rfl
@[simp] theorem State.setResult_content (s : State) (r : Reg8) (x : Byte × Flags) (y : Word) : (s.setResult r x).content y = s.content y := rfl
@[simp] theorem State.setResult_handler (s : State) (r : Reg8) (x : Byte × Flags) (y : Word) : (s.setResult r x).handler y = s.handler y := rfl
@[simp] theorem State.setResult_pending (s : State) (r : Reg8) (x : Byte × Flags) : (s.setResult r x).pending = s.pending := rfl
@[simp] theorem State.setPc_reg (s : State) (v : Word) (r : Reg8) : (s.setPc v).reg r = s.reg r := rfl
@[simp] theorem State.setPc_pair (s : State) (v : Word) (p : Pair16) : (s.setPc v).pair p = s.pair p := rfl
@[simp] theorem State.setPc_sp (s : State) (v : Word) : (s.setPc v).sp = s.sp := rfl
@[simp] theorem State.setPc_hl (s : State) (v : Word) : (s.setPc v).hl = s.hl := rfl
@[simp] theorem State.setPc_peek (s : State) (v : Word) (y : Word) : (s.setPc v).peek y = s.peek y := rfl
@[simp] theorem State.setPc_content (s : State) (v : Word) (y : Word) : (s.setPc v).content y = s.content y := rfl
@[simp] theorem State.setPc_handler (s : State) (v : Word) (y : Word) : (s.setPc v).handler y = s.handler y := rfl
@[simp] theorem State.setPc_pending (s : State) (v : Word) : (s.setPc v).pending = s.pending := rfl
@[simp] theorem State.onCont_peek (s : State) (f : Continuation → Continuation) (y : Word) : (s.onCont f).peek y = s.peek y := rfl
@[simp] theorem State.onCont_content (s : State) (f : Continuation → Continuation) (y : Word) : (s.onCont f).content y = s.content y := rfl
@[simp] theorem State.onCont_handler (s : State) (f : Continuation → Continuation) (y : Word) : (s.onCont f).handler y = s.handler y := rfl
@[simp] theorem State.onCont_pending (s : State) (f : Continuation → Continuation) : (s.onCont f).pending = s.pending := rfl
@[simp] theorem State.setTmp_reg (s : State) (v : Byte) (r : Reg8) : (s.setTmp v).reg r = s.reg r := rfl
@[simp] theorem State.setTmp_pair (s : State) (v : Byte) (p : Pair16) : (s.setTmp v).pair p = s.pair p := rfl
@[simp] theorem State.setTmp_sp (s : State) (v : Byte) : (s.setTmp v).sp = s.sp := rfl
@[simp] theorem State.setTmp_hl (s : State) (v : Byte) : (s.setTmp v).hl = s.hl := rfl
@[simp] theorem State.setTmp_peek (s : State) (v : Byte) (y : Word) : (s.setTmp v).peek y = s.peek y := rfl
@[simp] theorem State.setTmp_content (s : State) (v : Byte) (y : Word) : (s.setTmp v).content y = s.content y := rfl
@[simp] theorem State.setTmp_handler (s : State) (v : Byte) (y : Word) : (s.setTmp v).handler y = s.handler y := rfl
@[simp] theorem State.setTmp_pending (s : State) (v : Byte) : (s.setTmp v).pending = s.pending := rfl
@[simp] theorem State.setLo_reg (s : State) (v : Byte) (r : Reg8) : (s.setLo v).reg r = s.reg r := rfl
@[simp] theorem State.setLo_pair (s : State) (v : Byte) (p : Pair16) : (s.setLo v).pair p = s.pair p := rfl
@[simp] theorem State.setLo_sp (s : State) (v : Byte) : (s.setLo v).sp = s.sp := rfl
@[simp] theorem State.setLo_hl (s : State) (v : Byte) : (s.setLo v).hl = s.hl := rfl
@[simp] theorem State.setLo_peek (s : State) (v : Byte) (y : Word) : (s.setLo v).peek y = s.peek y := rfl
@[simp] theorem State.setLo_content (s : State) (v : Byte) (y : Word) : (s.setLo v).content y = s.content y := rfl
@[simp] theorem State.setLo_handler (s : State) (v : Byte) (y : Word) : (s.setLo v).handler y = s.handler y := rfl
@[simp] theorem State.setLo_pending (s : State) (v : Byte) : (s.setLo v).pending = s.pending := rfl
@[simp] theorem State.setHi_reg (s : State) (v : Byte) (r : Reg8) : (s.setHi v).reg r = s.reg r := rfl
@[simp] theorem State.setHi_pair (s : State) (v : Byte) (p : Pair16) : (s.setHi v).pair p = s.pair p := rfl
@[simp] theorem State.setHi_sp (s : State) (v : Byte) : (s.setHi v).sp = s.sp := rfl
@[simp] theorem State.setHi_hl (s : State) (v : Byte) : (s.setHi v).hl = s.hl := rfl
@[simp] theorem State.setHi_peek (s : State) (v : Byte) (y : Word) : (s.setHi v).peek y = s.peek y := rfl
@[simp] theorem State.setHi_content (s : State) (v : Byte) (y : Word) : (s.setHi v).content y = s.content y := rfl
@[simp] theorem State.setHi_handler (s : State) (v : Byte) (y : Word) : (s.setHi v).handler y = s.handler y := rfl
@[simp] theorem State.setHi_pending (s : State) (v : Byte) : (s.setHi v).pending = s.pending := rfl
@[simp] theorem State.addCycles_reg (s : State) (n : Nat) (r : Reg8) : (s.addCycles n).reg r = s.reg r := rfl
@[simp] theorem State.addCycles_pair (s : State) (n : Nat) (p : Pair16) : (s.addCycles n).pair p = s.pair p := rfl
@[simp] theorem State.addCycles_sp (s : State) (n : Nat) : (s.addCycles n).sp = s.sp := rfl
@[simp] theorem State.addCycles_hl (s : State) (n : Nat) : (s.addCycles n).hl = s.hl := rfl
@[simp] theorem State.addCycles_peek (s : State) (n : Nat) (y : Word) : (s.addCycles n).peek y = s.peek y := rfl
@[simp] theorem State.addCycles_content (s : State) (n : Nat) (y : Word) : (s.addCycles n).content y = s.content y := rfl
@[simp] theorem State.addCycles_handler (s : State) (n : Nat) (y : Word) : (s.addCycles n).handler y = s.handler y := rfl
@[simp] theorem State.addCycles_pending (s : State) (n : Nat) : (s.addCycles n).pending = s.pending := rfl
@[simp] theorem State.noteRead_reg (s : State) (a : Word) (r : Reg8) : (s.noteRead a).reg r = s.reg r := rfl
@[simp] theorem State.noteRead_pair (s : State) (a : Word) (p : Pair16) : (s.noteRead a).pair p = s.pair p := rfl
@[simp] theorem State.noteRead_sp (s : State) (a : Word) : (s.noteRead a).sp = s.sp := rfl
@[simp] theorem State.noteRead_hl (s : State) (a : Word) : (s.noteRead a).hl = s.hl := rfl
@[simp] theorem State.noteRead_content (s : State) (a : Word) (y : Word) : (s.noteRead a).content y = s.content y := rfl
@[simp] theorem State.noteRead_handler (s : State) (a : Word) (y : Word) : (s.noteRead a).handler y = s.handler y := rfl
@[simp] theorem State.noteRead_pending (s : State) (a : Word) : (s.noteRead a).pending = s.pending := rfl
@[simp] theorem State.memWrite_reg (s : State) (a : Word) (v : Byte) (r : Reg8) : (s.memWrite a v).reg r = s.reg r := by
  simp [State.reg]
@[simp] theorem State.memWrite_pair (s : State) (a : Word) (v : Byte) (p : Pair16) :
    (s.memWrite a v).pair p = s.pair p := by simp [State.pair]
@[simp] theorem State.memWrite_sp (s : State) (a : Word) (v : Byte) : (s.memWrite a v).sp = s.sp := by simp [State.sp]
@[simp] theorem State.memWrite_hl (s : State) (a : Word) (v : Byte) : (s.memWrite a v).hl = s.hl := by simp [State.hl]
@[simp] theorem State.memWrite_handler (s : State) (a : Word) (v : Byte) (x : Word) :
    (s.memWrite a v).handler x = s.handler x := by simp [State.handler]

/-! ### The register file -/

@[simp] theorem RegFile.get_set_same (f : RegFile) (r : Reg8) (v : Byte) : (f.set r v).get r = v := by cases r <;> rfl
theorem RegFile.get_set_other (f : RegFile) (r q : Reg8) (v : Byte) (h : q ≠ r) : (f.set r v).get q = f.get q := by
  cases r <;> cases q <;> first | rfl | exact absurd rfl h
@[simp] theorem RegFile.set_sp (f : RegFile) (r : Reg8) (v : Byte) : (f.set r v).sp = f.sp := by cases r <;> rfl
@[simp] theorem RegFile.set_flags (f : RegFile) (r : Reg8) (v : Byte) : (f.set r v).flags = f.flags := by cases r <;> rfl
@[simp] theorem RegFile.get_withFlags (f : RegFile) (g : Flags) (r : Reg8) : { f with flags := g }.get r = f.get r := by
  cases r <;> rfl
@[simp] theorem RegFile.get_withSp (f : RegFile) (v : Word) (r : Reg8) : { f with sp := v }.get r = f.get r := by
  cases r <;> rfl
@[simp] theorem RegFile.setPair_flags (f : RegFile) (p : Pair16) (v : Word) : (f.setPair p v).flags = f.flags := by
  cases p <;> rfl
@[simp] theorem RegFile.setStackPair_sp (f : RegFile) (q : StackPair) (v : Word) : (f.setStackPair q v).sp = f.sp := by
  cases q <;> rfl
theorem RegFile.setPair_sp_of_ne (f : RegFile) (p : Pair16) (v : Word) (h : p ≠ .sp) : (f.setPair p v).sp = f.sp := by
  cases p <;> first | rfl | exact absurd rfl h

/-- The two halves put together again. -/
@[simp] theorem joinBytes_halves (v : Word) : joinBytes (highByte v) (lowByte v) = v := by
  simp only [joinBytes, highByte, lowByte]
  apply BitVec.eq_of_getLsbD_eq
  intro i hi
  simp only [BitVec.getLsbD_append, BitVec.getLsbD_extractLsb']
  by_cases h : i < 8
  · simp [h]
  · have : i - 8 < 8 := by omega
    simp [h, this, show 8 + (i - 8) = i by omega]
@[simp] theorem highByte_join (hi lo : Byte) : highByte (joinBytes hi lo) = hi := by
  simp only [joinBytes, highByte]
  apply BitVec.eq_of_getLsbD_eq
  intro i h
  simp only [BitVec.getLsbD_extractLsb', BitVec.getLsbD_append]
  simp [h]
@[simp] theorem lowByte_join (hi lo : Byte) : lowByte (joinBytes hi lo) = lo := by
  simp only [joinBytes, lowByte]
  apply BitVec.eq_of_getLsbD_eq
  intro i h
  simp only [BitVec.getLsbD_extractLsb', BitVec.getLsbD_append]
  simp [h]
@[simp] theorem RegFile.pair_setPair (f : RegFile) (p : Pair16) (v : Word) : (f.setPair p v).pair p = v := by
  cases p <;> simp [RegFile.setPair, RegFile.pair]

end Sys2Proof.Machine
end

