-- ==== Sys2Proof/Laws/Ops.lean ====
section
/-! SUPPORT. One lemma per shared operation that says everything it can do; the lemmas about instructions cite these
instead of unfolding the operations. -/

namespace Sys2Proof.Machine

/-! ### Outcomes -/

@[simp] theorem andThen_next (s : State) (f : Seg) : andThen (.next s) f = f s := rfl
@[simp] theorem andThen_fault (r : Fault) (f : Seg) : andThen (.fault r) f = .fault r := rfl
@[simp] theorem andThen_refused (r : Refusal) (f : Seg) : andThen (.refused r) f = .refused r := rfl

/-- `andThen` answers next exactly where both parts do. -/
theorem andThen_next_iff {o : Host.Outcome State Fault Refusal} {f : Seg} {t : State} :
    andThen o f = .next t ↔ ∃ u, o = .next u ∧ f u = .next t := by
  cases o <;> simp

/-! ### Segments -/

@[simp] theorem idle_eq (s : State) : idle s = .next s := rfl
@[simp] theorem act_eq (f : State → State) (s : State) : act f s = .next (f s) := rfl
@[simp] theorem readInto_eq (addr : State → Word) (f : Byte → State → State) (s : State) :
    readInto addr f s = .next (f (s.peek (addr s)) (s.noteRead (addr s))) := rfl
@[simp] theorem fetchInto_eq (f : Byte → State → State) (s : State) :
    fetchInto f s = .next (f (s.peek s.pc) ((s.noteRead s.pc).setPc (s.pc + 1))) := rfl
@[simp] theorem writeThen_eq (addr : State → Word) (v : State → Byte) (f : State → State) (s : State) :
    writeThen addr v f s = .next (f (s.memWrite (addr s) (v s))) := rfl

theorem withTmp_of {s : State} {v : Byte} (h : s.cont.bind (·.tmp) = some v) (f : Byte → Seg) :
    withTmp f s = f v s := by simp [withTmp, h]
theorem withLo_of {s : State} {v : Byte} (h : s.cont.bind (·.lo) = some v) (f : Byte → Seg) :
    withLo f s = f v s := by simp [withLo, h]
theorem withHi_of {s : State} {v : Byte} (h : s.cont.bind (·.hi) = some v) (f : Byte → Seg) :
    withHi f s = f v s := by simp [withHi, h]
theorem withAddr_of {s : State} {hi lo : Byte} (h : s.cont.bind (·.hi) = some hi) (l : s.cont.bind (·.lo) = some lo)
    (f : Word → Seg) : withAddr f s = f (joinBytes hi lo) s := by
  simp [withAddr, withHi_of h, withLo_of l]

/-- A segment that reads `tmp` answers next exactly where `tmp` holds a value and the rest does. -/
theorem withTmp_next_iff {s t : State} {f : Byte → Seg} :
    withTmp f s = .next t ↔ ∃ v, s.cont.bind (·.tmp) = some v ∧ f v s = .next t := by
  unfold withTmp; split <;> simp [*]
theorem withLo_next_iff {s t : State} {f : Byte → Seg} :
    withLo f s = .next t ↔ ∃ v, s.cont.bind (·.lo) = some v ∧ f v s = .next t := by
  unfold withLo; split <;> simp [*]
theorem withHi_next_iff {s t : State} {f : Byte → Seg} :
    withHi f s = .next t ↔ ∃ v, s.cont.bind (·.hi) = some v ∧ f v s = .next t := by
  unfold withHi; split <;> simp [*]
theorem withAddr_next_iff {s t : State} {f : Word → Seg} :
    withAddr f s = .next t ↔
      ∃ hi, s.cont.bind (·.hi) = some hi ∧ ∃ lo, s.cont.bind (·.lo) = some lo ∧ f (joinBytes hi lo) s = .next t := by
  simp only [withAddr, withHi_next_iff, withLo_next_iff]

theorem withOpcode_of {s : State} {op : Byte} {a : Word} (h : s.cont.bind (·.op) = some op)
    (l : s.cont.bind (·.opAddr) = some a) (f : Byte → Word → Seg) : withOpcode f s = f op a s := by
  simp [withOpcode, h, l]
theorem withOpcode_next_iff {s t : State} {f : Byte → Word → Seg} :
    withOpcode f s = .next t ↔
      ∃ op, s.cont.bind (·.op) = some op ∧ ∃ a, s.cont.bind (·.opAddr) = some a ∧ f op a s = .next t := by
  unfold withOpcode
  split
  · simp [*]
  · next h => simpa using fun op ho a ha _ => (h op a ho ha).elim

/-- A routine runs the segment at which the continuation stands. -/
theorem perform_of {s : State} {k : Nat} {schedule : List Seg} {seg : Seg} (h : s.cont.map (·.k) = some k)
    (hk : schedule[k]? = some seg) : perform schedule s = seg s := by
  cases hc : s.cont with
  | none => simp [hc] at h
  | some c =>
    have : c.k = k := by simpa [hc] using h
    simp [perform, hc, this, hk]

/-- A routine answers next only from one of its segments. -/
theorem perform_cases {s t : State} {schedule : List Seg} (h : perform schedule s = .next t) :
    ∃ k seg, s.cont.map (·.k) = some k ∧ schedule[k]? = some seg ∧ seg s = .next t := by
  unfold perform at h
  split at h
  · exact absurd h (by simp)
  · next c hc =>
    split at h
    · next seg hs => exact ⟨c.k, seg, by simp [hc], hs, h⟩
    · exact absurd h (by simp)

/-! The inversion of a routine, by its number of segments: `simp only` with these and the lemmas about segments turns
`exec i s = .next t` into its cases. -/

theorem perform_next_iff₁ {s t : State} {a : Seg} :
    perform [a] s = .next t ↔
      s.cont.map (·.k) = some 0 ∧ a s = .next t := by
  constructor
  · intro h
    obtain ⟨k, seg, hk, hs, h⟩ := perform_cases h
    rcases k with _ | k <;> simp_all
  · rintro ⟨hk, h⟩
    exact (perform_of hk rfl).trans h

theorem perform_next_iff₂ {s t : State} {a b : Seg} :
    perform [a, b] s = .next t ↔
      (s.cont.map (·.k) = some 0 ∧ a s = .next t) ∨
      (s.cont.map (·.k) = some 1 ∧ b s = .next t) := by
  constructor
  · intro h
    obtain ⟨k, seg, hk, hs, h⟩ := perform_cases h
    rcases k with _ | _ | k <;> simp_all
  · rintro (⟨hk, h⟩ | ⟨hk, h⟩) <;> exact (perform_of hk rfl).trans h

theorem perform_next_iff₃ {s t : State} {a b c : Seg} :
    perform [a, b, c] s = .next t ↔
      (s.cont.map (·.k) = some 0 ∧ a s = .next t) ∨
      (s.cont.map (·.k) = some 1 ∧ b s = .next t) ∨
      (s.cont.map (·.k) = some 2 ∧ c s = .next t) := by
  constructor
  · intro h
    obtain ⟨k, seg, hk, hs, h⟩ := perform_cases h
    rcases k with _ | _ | _ | k <;> simp_all
  · rintro (⟨hk, h⟩ | ⟨hk, h⟩ | ⟨hk, h⟩) <;> exact (perform_of hk rfl).trans h

theorem perform_next_iff₄ {s t : State} {a b c d : Seg} :
    perform [a, b, c, d] s = .next t ↔
      (s.cont.map (·.k) = some 0 ∧ a s = .next t) ∨
      (s.cont.map (·.k) = some 1 ∧ b s = .next t) ∨
      (s.cont.map (·.k) = some 2 ∧ c s = .next t) ∨
      (s.cont.map (·.k) = some 3 ∧ d s = .next t) := by
  constructor
  · intro h
    obtain ⟨k, seg, hk, hs, h⟩ := perform_cases h
    rcases k with _ | _ | _ | _ | k <;> simp_all
  · rintro (⟨hk, h⟩ | ⟨hk, h⟩ | ⟨hk, h⟩ | ⟨hk, h⟩) <;> exact (perform_of hk rfl).trans h

theorem perform_next_iff₅ {s t : State} {a b c d e : Seg} :
    perform [a, b, c, d, e] s = .next t ↔
      (s.cont.map (·.k) = some 0 ∧ a s = .next t) ∨
      (s.cont.map (·.k) = some 1 ∧ b s = .next t) ∨
      (s.cont.map (·.k) = some 2 ∧ c s = .next t) ∨
      (s.cont.map (·.k) = some 3 ∧ d s = .next t) ∨
      (s.cont.map (·.k) = some 4 ∧ e s = .next t) := by
  constructor
  · intro h
    obtain ⟨k, seg, hk, hs, h⟩ := perform_cases h
    rcases k with _ | _ | _ | _ | _ | k <;> simp_all
  · rintro (⟨hk, h⟩ | ⟨hk, h⟩ | ⟨hk, h⟩ | ⟨hk, h⟩ | ⟨hk, h⟩) <;> exact (perform_of hk rfl).trans h

theorem perform_next_iff₆ {s t : State} {a b c d e f : Seg} :
    perform [a, b, c, d, e, f] s = .next t ↔
      (s.cont.map (·.k) = some 0 ∧ a s = .next t) ∨
      (s.cont.map (·.k) = some 1 ∧ b s = .next t) ∨
      (s.cont.map (·.k) = some 2 ∧ c s = .next t) ∨
      (s.cont.map (·.k) = some 3 ∧ d s = .next t) ∨
      (s.cont.map (·.k) = some 4 ∧ e s = .next t) ∨
      (s.cont.map (·.k) = some 5 ∧ f s = .next t) := by
  constructor
  · intro h
    obtain ⟨k, seg, hk, hs, h⟩ := perform_cases h
    rcases k with _ | _ | _ | _ | _ | _ | k <;> simp_all
  · rintro (⟨hk, h⟩ | ⟨hk, h⟩ | ⟨hk, h⟩ | ⟨hk, h⟩ | ⟨hk, h⟩ | ⟨hk, h⟩) <;> exact (perform_of hk rfl).trans h

/-! ### Halves -/

/-- The two halves side by side are `(hi << 8) | lo` (R8, R31). -/
theorem joinBytes_eq_or (hi lo : Byte) : joinBytes hi lo = hi.setWidth 16 <<< 8 ||| lo.setWidth 16 := by
  apply BitVec.eq_of_toNat_eq
  simp only [joinBytes, BitVec.toNat_append, BitVec.toNat_or, BitVec.toNat_shiftLeft, BitVec.toNat_setWidth]
  have := hi.isLt
  have := lo.isLt
  rw [Nat.mod_eq_of_lt (a := lo.toNat) (by omega), Nat.mod_eq_of_lt (a := hi.toNat) (by omega), Nat.mod_eq_of_lt]
  rw [Nat.shiftLeft_eq]
  omega

/-! ### The bus -/

/-- Where a stored byte goes: IF, IE, memory, or nowhere. -/
theorem State.store_cases (s : State) (a : Word) (v : Byte) :
    (a = ifAddr ∧ s.store a v = { s with ifl := v.setWidth 5 }) ∨
    (a ≠ ifAddr ∧ a = ieAddr ∧ s.store a v = { s with ie := s.ieStored v }) ∨
    (a ≠ ifAddr ∧ a ≠ ieAddr ∧ s.handler a = some .ram ∧ s.store a v = { s with mem := Memory.set s.mem a.toNat v }) ∨
    (a ≠ ifAddr ∧ a ≠ ieAddr ∧ s.handler a ≠ some .ram ∧ s.store a v = s) := by
  unfold State.store
  by_cases h1 : a = ifAddr
  · exact .inl ⟨h1, by simp [h1]⟩
  · by_cases h2 : a = ieAddr
    · exact .inr (.inl ⟨h1, h2, by rw [if_neg h1, if_pos h2]⟩)
    · by_cases h3 : s.handler a = some .ram
      · exact .inr (.inr (.inl ⟨h1, h2, h3, by simp [h1, h2, h3]⟩))
      · exact .inr (.inr (.inr ⟨h1, h2, h3, by simp [h1, h2, h3]⟩))

/-- IF and IE are two addresses. -/
theorem ifAddr_ne_ieAddr : ifAddr ≠ ieAddr := by decide

/-- A store changes the content of no other address. -/
theorem State.store_content_other (s : State) (a b : Word) (v : Byte) (h : b ≠ a) :
    (s.store a v).content b = s.content b := by
  have hn : b.toNat ≠ a.toNat := fun e => h (BitVec.eq_of_toNat_eq e)
  rcases s.store_cases a v with ⟨ha, e⟩ | ⟨_, ha, e⟩ | ⟨_, _, _, e⟩ | ⟨_, _, _, e⟩
  · subst ha; simp [e, State.content, State.ieRead, h]
  · subst ha; simp [e, State.content, State.ifRead, h]
  · simp [e, State.content, State.ifRead, State.ieRead, Memory.get_set_other _ v hn]
  · rw [e]

theorem State.memWrite_content_other (s : State) (a b : Word) (v : Byte) (h : b ≠ a) :
    (s.memWrite a v).content b = s.content b := s.store_content_other a b v h

/-- On memory, and at IF and IE, a read returns the content. -/
theorem State.peek_eq_content (s : State) (a : Word)
    (h : a = ifAddr ∨ a = ieAddr ∨ s.handler a = some .ram ∨ s.handler a = some .rom) : s.peek a = s.content a := by
  unfold State.peek State.content State.busAnswer
  rcases h with h | h | h | h
  · simp [h]
  · simp [h, ifAddr_ne_ieAddr.symm]
  · simp [h]
  · simp [h]

/-! ### Interrupts -/

/-- The encoder answers none exactly where no source is pending and enabled. -/
theorem priorityVector_eq_none {m : BitVec 5} : priorityVector m = none ↔ m = 0 := by
  revert m; decide

/-- M1 of the acceptance sequence. -/
theorem acceptInterrupt_M1 {s : State} (h : s.cont.map (·.k) = some 0) :
    acceptInterrupt s = .next { s with ime := false } := by
  rw [acceptInterrupt, perform_of h rfl]; rfl
theorem acceptInterrupt_M2 {s : State} (h : s.cont.map (·.k) = some 1) : acceptInterrupt s = .next s := by
  rw [acceptInterrupt, perform_of h rfl]; rfl
theorem acceptInterrupt_M3 {s : State} (h : s.cont.map (·.k) = some 2) :
    acceptInterrupt s = .next s.isrPushHigh := by
  rw [acceptInterrupt, perform_of h rfl]; rfl
theorem acceptInterrupt_M4 {s : State} (h : s.cont.map (·.k) = some 3) :
    acceptInterrupt s = .next s.isrPushLow := by
  rw [acceptInterrupt, perform_of h rfl]; rfl
theorem acceptInterrupt_M5 {s : State} (h : s.cont.map (·.k) = some 4) :
    acceptInterrupt s = .next s.isrJump := by
  rw [acceptInterrupt, perform_of h rfl]; rfl

end Sys2Proof.Machine
end

