-- ==== Sys2Proof/Laws/Dispatch.lean ====
section
/-! SUPPORT. The 512 arms of the dispatch as the 68 families of `Form`: what a fact about an instruction has to be
proved for is the family, with its operands as variables. -/

namespace Sys2Proof.Machine

/-- The shared operation each family's instructions call. -/
def Form.run : Form → Seg
  | .nop => nop
  | .halt => halt
  | .stop => stop
  | .di => di
  | .ei => ei
  | .prefixCB => prefixCB
  | .undef _ => undef
  | .ldRegReg dst src => ldRegReg dst src
  | .ldRegImm dst => ldRegImm dst
  | .ldRegHl dst => ldRegHl dst
  | .ldHlReg r => ldHlReg r
  | .ldHlImm => ldHlImm
  | .ldAInd p => ldAInd p
  | .ldIndA p => ldIndA p
  | .ldAHlInc => ldAHlInc
  | .ldAHlDec => ldAHlDec
  | .ldHlIncA => ldHlIncA
  | .ldHlDecA => ldHlDecA
  | .ldAAbs => ldAAbs
  | .ldAbsA => ldAbsA
  | .ldhAImm => ldhAImm
  | .ldhImmA => ldhImmA
  | .ldAC => ldAC
  | .ldCA => ldCA
  | .ldPairImm p => ldPairImm p
  | .ldAbsSp => ldAbsSp
  | .ldSpHl => ldSpHl
  | .push q => push q
  | .pop q => pop q
  | .aluReg op r => aluReg op r
  | .aluHl op => aluHl op
  | .aluImm op => aluImm op
  | .incReg r => incReg r
  | .incHl => incHl
  | .decReg r => decReg r
  | .decHl => decHl
  | .daa => daa
  | .cpl => cpl
  | .scf => scf
  | .ccf => ccf
  | .addHl p => addHl p
  | .incPair p => incPair p
  | .decPair p => decPair p
  | .addSp => addSp
  | .ldHlSp => ldHlSp
  | .rlca => rotateA .rlc
  | .rrca => rotateA .rrc
  | .rla => rotateA .rl
  | .rra => rotateA .rr
  | .rotReg op r => rotReg op r
  | .rotHl op => rotHl op
  | .bitReg b r => bitReg b r
  | .bitHl b => bitHl b
  | .resReg b r => resReg b r
  | .resHl b => resHl b
  | .setReg b r => setReg b r
  | .setHl b => setHl b
  | .jp => jp
  | .jpCc cc => jpCc cc
  | .jpHl => jpHl
  | .jr => jr
  | .jrCc cc => jrCc cc
  | .call => call
  | .callCc cc => callCc cc
  | .rst t => rst t
  | .ret => returnFrom
  | .retCc cc => retCc cc
  | .reti => returnFromInterrupt

/-- The instruction of a form runs the operation of its family. -/
theorem exec_ofForm (f : Form) (s : State) : exec (Instr.ofForm f) s = Form.run f s := by
  cases f with
  | undef u => cases u <;> rfl
  | ldRegReg p r => cases p <;> cases r <;> rfl
  | ldRegImm p => cases p <;> rfl
  | ldRegHl p => cases p <;> rfl
  | ldHlReg r => cases r <;> rfl
  | ldAInd p => cases p <;> rfl
  | ldIndA p => cases p <;> rfl
  | ldPairImm p => cases p <;> rfl
  | push q => cases q <;> rfl
  | pop q => cases q <;> rfl
  | aluReg op r => cases op <;> cases r <;> rfl
  | aluHl op => cases op <;> rfl
  | aluImm op => cases op <;> rfl
  | incReg r => cases r <;> rfl
  | decReg r => cases r <;> rfl
  | addHl p => cases p <;> rfl
  | incPair p => cases p <;> rfl
  | decPair p => cases p <;> rfl
  | rotReg op r => cases op <;> cases r <;> rfl
  | rotHl op => cases op <;> rfl
  | bitReg b r => cases b <;> cases r <;> rfl
  | bitHl b => cases b <;> rfl
  | resReg b r => cases b <;> cases r <;> rfl
  | resHl b => cases b <;> rfl
  | setReg b r => cases b <;> cases r <;> rfl
  | setHl b => cases b <;> rfl
  | jpCc cc => cases cc <;> rfl
  | jrCc cc => cases cc <;> rfl
  | callCc cc => cases cc <;> rfl
  | rst t => cases t <;> rfl
  | retCc cc => cases cc <;> rfl
  | _ => rfl

/-! The same, instruction by instruction: what `exec` runs for each family, by its own constructor. -/

@[simp] theorem exec_nop (s : State) : exec .nop s = nop s := rfl
@[simp] theorem exec_ofLdPairImm (x : Pair16) (s : State) : exec (.ofLdPairImm x) s = ldPairImm x s :=
  exec_ofForm (.ldPairImm x) s
@[simp] theorem exec_ofLdIndA (x : IndPair) (s : State) : exec (.ofLdIndA x) s = ldIndA x s :=
  exec_ofForm (.ldIndA x) s
@[simp] theorem exec_ofIncPair (x : Pair16) (s : State) : exec (.ofIncPair x) s = incPair x s :=
  exec_ofForm (.incPair x) s
@[simp] theorem exec_ofIncReg (x : Reg8) (s : State) : exec (.ofIncReg x) s = incReg x s :=
  exec_ofForm (.incReg x) s
@[simp] theorem exec_ofDecReg (x : Reg8) (s : State) : exec (.ofDecReg x) s = decReg x s :=
  exec_ofForm (.decReg x) s
@[simp] theorem exec_ofLdRegImm (x : Reg8) (s : State) : exec (.ofLdRegImm x) s = ldRegImm x s :=
  exec_ofForm (.ldRegImm x) s
@[simp] theorem exec_rlca (s : State) : exec .rlca s = rotateA .rlc s := rfl
@[simp] theorem exec_ldAtN16Sp (s : State) : exec .ldAtN16Sp s = ldAbsSp s := rfl
@[simp] theorem exec_ofAddHl (x : Pair16) (s : State) : exec (.ofAddHl x) s = addHl x s :=
  exec_ofForm (.addHl x) s
@[simp] theorem exec_ofLdAInd (x : IndPair) (s : State) : exec (.ofLdAInd x) s = ldAInd x s :=
  exec_ofForm (.ldAInd x) s
@[simp] theorem exec_ofDecPair (x : Pair16) (s : State) : exec (.ofDecPair x) s = decPair x s :=
  exec_ofForm (.decPair x) s
@[simp] theorem exec_rrca (s : State) : exec .rrca s = rotateA .rrc s := rfl
@[simp] theorem exec_stop (s : State) : exec .stop s = stop s := rfl
@[simp] theorem exec_rla (s : State) : exec .rla s = rotateA .rl s := rfl
@[simp] theorem exec_jrE8 (s : State) : exec .jrE8 s = jr s := rfl
@[simp] theorem exec_rra (s : State) : exec .rra s = rotateA .rr s := rfl
@[simp] theorem exec_ofJrCc (x : Cond) (s : State) : exec (.ofJrCc x) s = jrCc x s :=
  exec_ofForm (.jrCc x) s
@[simp] theorem exec_ldAtHlIncA (s : State) : exec .ldAtHlIncA s = ldHlIncA s := rfl
@[simp] theorem exec_daa (s : State) : exec .daa s = daa s := rfl
@[simp] theorem exec_ldAAtHlInc (s : State) : exec .ldAAtHlInc s = ldAHlInc s := rfl
@[simp] theorem exec_cpl (s : State) : exec .cpl s = cpl s := rfl
@[simp] theorem exec_ldAtHlDecA (s : State) : exec .ldAtHlDecA s = ldHlDecA s := rfl
@[simp] theorem exec_incAtHl (s : State) : exec .incAtHl s = incHl s := rfl
@[simp] theorem exec_decAtHl (s : State) : exec .decAtHl s = decHl s := rfl
@[simp] theorem exec_ldAtHlN8 (s : State) : exec .ldAtHlN8 s = ldHlImm s := rfl
@[simp] theorem exec_scf (s : State) : exec .scf s = scf s := rfl
@[simp] theorem exec_ldAAtHlDec (s : State) : exec .ldAAtHlDec s = ldAHlDec s := rfl
@[simp] theorem exec_ccf (s : State) : exec .ccf s = ccf s := rfl
@[simp] theorem exec_ofLdRegReg (x : Reg8) (y : Reg8) (s : State) : exec (.ofLdRegReg x y) s = ldRegReg x y s :=
  exec_ofForm (.ldRegReg x y) s
@[simp] theorem exec_ofLdRegHl (x : Reg8) (s : State) : exec (.ofLdRegHl x) s = ldRegHl x s :=
  exec_ofForm (.ldRegHl x) s
@[simp] theorem exec_ofLdHlReg (x : Reg8) (s : State) : exec (.ofLdHlReg x) s = ldHlReg x s :=
  exec_ofForm (.ldHlReg x) s
@[simp] theorem exec_halt (s : State) : exec .halt s = halt s := rfl
@[simp] theorem exec_ofAluReg (x : AluOp) (y : Reg8) (s : State) : exec (.ofAluReg x y) s = aluReg x y s :=
  exec_ofForm (.aluReg x y) s
@[simp] theorem exec_ofAluHl (x : AluOp) (s : State) : exec (.ofAluHl x) s = aluHl x s :=
  exec_ofForm (.aluHl x) s
@[simp] theorem exec_ofRetCc (x : Cond) (s : State) : exec (.ofRetCc x) s = retCc x s :=
  exec_ofForm (.retCc x) s
@[simp] theorem exec_ofPop (x : StackPair) (s : State) : exec (.ofPop x) s = pop x s :=
  exec_ofForm (.pop x) s
@[simp] theorem exec_ofJpCc (x : Cond) (s : State) : exec (.ofJpCc x) s = jpCc x s :=
  exec_ofForm (.jpCc x) s
@[simp] theorem exec_jpN16 (s : State) : exec .jpN16 s = jp s := rfl
@[simp] theorem exec_ofCallCc (x : Cond) (s : State) : exec (.ofCallCc x) s = callCc x s :=
  exec_ofForm (.callCc x) s
@[simp] theorem exec_ofPush (x : StackPair) (s : State) : exec (.ofPush x) s = push x s :=
  exec_ofForm (.push x) s
@[simp] theorem exec_ofAluImm (x : AluOp) (s : State) : exec (.ofAluImm x) s = aluImm x s :=
  exec_ofForm (.aluImm x) s
@[simp] theorem exec_ofRst (x : Oct) (s : State) : exec (.ofRst x) s = rst x s :=
  exec_ofForm (.rst x) s
@[simp] theorem exec_ret (s : State) : exec .ret s = returnFrom s := rfl
@[simp] theorem exec_prefixCB (s : State) : exec .prefixCB s = prefixCB s := rfl
@[simp] theorem exec_callN16 (s : State) : exec .callN16 s = call s := rfl
@[simp] theorem exec_ofUndef (x : Undef) (s : State) : exec (.ofUndef x) s = undef s :=
  exec_ofForm (.undef x) s
@[simp] theorem exec_reti (s : State) : exec .reti s = returnFromInterrupt s := rfl
@[simp] theorem exec_ldhAtN8A (s : State) : exec .ldhAtN8A s = ldhImmA s := rfl
@[simp] theorem exec_ldAtCA (s : State) : exec .ldAtCA s = ldCA s := rfl
@[simp] theorem exec_addSpE8 (s : State) : exec .addSpE8 s = addSp s := rfl
@[simp] theorem exec_jpHl (s : State) : exec .jpHl s = jpHl s := rfl
@[simp] theorem exec_ldAtN16A (s : State) : exec .ldAtN16A s = ldAbsA s := rfl
@[simp] theorem exec_ldhAAtN8 (s : State) : exec .ldhAAtN8 s = ldhAImm s := rfl
@[simp] theorem exec_ldAAtC (s : State) : exec .ldAAtC s = ldAC s := rfl
@[simp] theorem exec_di (s : State) : exec .di s = di s := rfl
@[simp] theorem exec_ldHlSpE8 (s : State) : exec .ldHlSpE8 s = ldHlSp s := rfl
@[simp] theorem exec_ldSpHl (s : State) : exec .ldSpHl s = ldSpHl s := rfl
@[simp] theorem exec_ldAAtN16 (s : State) : exec .ldAAtN16 s = ldAAbs s := rfl
@[simp] theorem exec_ei (s : State) : exec .ei s = ei s := rfl
@[simp] theorem exec_ofRotReg (x : RotOp) (y : Reg8) (s : State) : exec (.ofRotReg x y) s = rotReg x y s :=
  exec_ofForm (.rotReg x y) s
@[simp] theorem exec_ofRotHl (x : RotOp) (s : State) : exec (.ofRotHl x) s = rotHl x s :=
  exec_ofForm (.rotHl x) s
@[simp] theorem exec_ofBitReg (x : Oct) (y : Reg8) (s : State) : exec (.ofBitReg x y) s = bitReg x y s :=
  exec_ofForm (.bitReg x y) s
@[simp] theorem exec_ofBitHl (x : Oct) (s : State) : exec (.ofBitHl x) s = bitHl x s :=
  exec_ofForm (.bitHl x) s
@[simp] theorem exec_ofResReg (x : Oct) (y : Reg8) (s : State) : exec (.ofResReg x y) s = resReg x y s :=
  exec_ofForm (.resReg x y) s
@[simp] theorem exec_ofResHl (x : Oct) (s : State) : exec (.ofResHl x) s = resHl x s :=
  exec_ofForm (.resHl x) s
@[simp] theorem exec_ofSetReg (x : Oct) (y : Reg8) (s : State) : exec (.ofSetReg x y) s = setReg x y s :=
  exec_ofForm (.setReg x y) s
@[simp] theorem exec_ofSetHl (x : Oct) (s : State) : exec (.ofSetHl x) s = setHl x s :=
  exec_ofForm (.setHl x) s

/-- Every instruction is the instruction of its form. -/
theorem ofForm_form (i : Instr) : Instr.ofForm i.form = i := by cases i <;> rfl

/-- What an instruction runs, by its form. -/
theorem exec_eq_run (i : Instr) (s : State) : exec i s = Form.run i.form s := by
  conv => lhs; rw [← ofForm_form i]
  exact exec_ofForm i.form s

/-- A form is the form of its instruction. -/
theorem form_ofForm (f : Form) : (Instr.ofForm f).form = f := by
  cases f with
  | undef u => cases u <;> rfl
  | ldRegReg p r => cases p <;> cases r <;> rfl
  | ldRegImm p => cases p <;> rfl
  | ldRegHl p => cases p <;> rfl
  | ldHlReg r => cases r <;> rfl
  | ldAInd p => cases p <;> rfl
  | ldIndA p => cases p <;> rfl
  | ldPairImm p => cases p <;> rfl
  | push q => cases q <;> rfl
  | pop q => cases q <;> rfl
  | aluReg op r => cases op <;> cases r <;> rfl
  | aluHl op => cases op <;> rfl
  | aluImm op => cases op <;> rfl
  | incReg r => cases r <;> rfl
  | decReg r => cases r <;> rfl
  | addHl p => cases p <;> rfl
  | incPair p => cases p <;> rfl
  | decPair p => cases p <;> rfl
  | rotReg op r => cases op <;> cases r <;> rfl
  | rotHl op => cases op <;> rfl
  | bitReg b r => cases b <;> cases r <;> rfl
  | bitHl b => cases b <;> rfl
  | resReg b r => cases b <;> cases r <;> rfl
  | resHl b => cases b <;> rfl
  | setReg b r => cases b <;> cases r <;> rfl
  | setHl b => cases b <;> rfl
  | jpCc cc => cases cc <;> rfl
  | jrCc cc => cases cc <;> rfl
  | callCc cc => cases cc <;> rfl
  | rst t => cases t <;> rfl
  | retCc cc => cases cc <;> rfl
  | _ => rfl

/-- What the step does with a segment's outcome. -/
theorem stepCycle_segment {s : State} (h : s.sample.cyclesLeft ≠ 0) : step s = runSegment s.sample := by
  simp [step, stepCycle, h]

/-- The step at a boundary. -/
theorem step_boundary {s : State} (h : s.sample.cyclesLeft = 0) :
    step s = match s.sample.boundary with
      | .idle t => .next t
      | .go t => runSegment t := by
  simp only [step, stepCycle, h, if_true] <;> rfl

end Sys2Proof.Machine
end

