-- ==== Sys2Proof/Laws/Families.lean ====
section
/-! SUPPORT. The inversion of every family's schedule: where the state stands, and the next state of that segment. The
lemmas about instructions cite these and never unfold a schedule. -/

namespace Sys2Proof.Machine

theorem ldRegReg_next_iff (dst src : Reg8) {s u : State} :
    ldRegReg dst src s = .next u ↔
      s.cont.map (·.k) = some 0 ∧ s.setReg dst (s.reg src) = u := by
  simp only [ldRegReg, perform_next_iff₁, act_eq, Host.Outcome.next.injEq]

theorem ldRegImm_next_iff (dst : Reg8) {s u : State} :
    ldRegImm dst s = .next u ↔
      s.cont.map (·.k) = some 0 ∧ s = u ∨
      s.cont.map (·.k) = some 1 ∧ ((s.noteRead s.pc).setPc (s.pc + 1)).setReg dst (s.peek s.pc) = u := by
  simp only [ldRegImm, perform_next_iff₂, idle_eq, fetchInto_eq, Host.Outcome.next.injEq]

theorem ldRegHl_next_iff (dst : Reg8) {s u : State} :
    ldRegHl dst s = .next u ↔
      s.cont.map (·.k) = some 0 ∧ s = u ∨
      s.cont.map (·.k) = some 1 ∧ (s.noteRead s.hl).setReg dst (s.peek s.hl) = u := by
  simp only [ldRegHl, perform_next_iff₂, idle_eq, readInto_eq, Host.Outcome.next.injEq]

theorem ldHlReg_next_iff (r : Reg8) {s u : State} :
    ldHlReg r s = .next u ↔
      s.cont.map (·.k) = some 0 ∧ s = u ∨
      s.cont.map (·.k) = some 1 ∧ s.memWrite s.hl (s.reg r) = u := by
  simp only [ldHlReg, perform_next_iff₂, idle_eq, writeThen_eq, Host.Outcome.next.injEq, id]

theorem ldHlImm_next_iff {s u : State} :
    ldHlImm s = .next u ↔
      s.cont.map (·.k) = some 0 ∧ s = u ∨
      s.cont.map (·.k) = some 1 ∧ ((s.noteRead s.pc).setPc (s.pc + 1)).setTmp (s.peek s.pc) = u ∨
      s.cont.map (·.k) = some 2 ∧ ∃ v, s.cont.bind (·.tmp) = some v ∧ s.memWrite s.hl v = u := by
  simp only [ldHlImm, perform_next_iff₃, withTmp_next_iff, idle_eq, fetchInto_eq, writeThen_eq, fetchTmp,
    Host.Outcome.next.injEq, id]

theorem ldAInd_next_iff (p : IndPair) {s u : State} :
    ldAInd p s = .next u ↔
      s.cont.map (·.k) = some 0 ∧ s = u ∨
      s.cont.map (·.k) = some 1 ∧ (s.noteRead (s.pair (indPair p))).setReg Reg8.a (s.peek (s.pair (indPair
        p))) = u := by
  simp only [ldAInd, perform_next_iff₂, idle_eq, readInto_eq, Host.Outcome.next.injEq]

theorem ldIndA_next_iff (p : IndPair) {s u : State} :
    ldIndA p s = .next u ↔
      s.cont.map (·.k) = some 0 ∧ s = u ∨
      s.cont.map (·.k) = some 1 ∧ s.memWrite (s.pair (indPair p)) (s.reg Reg8.a) = u := by
  simp only [ldIndA, perform_next_iff₂, idle_eq, writeThen_eq, Host.Outcome.next.injEq, id]

theorem ldAHlInc_next_iff {s u : State} :
    ldAHlInc s = .next u ↔
      s.cont.map (·.k) = some 0 ∧ s = u ∨
      s.cont.map (·.k) = some 1 ∧ ((s.noteRead s.hl).setReg Reg8.a (s.peek s.hl)).setPair Pair16.hl
        ((s.noteRead s.hl).hl + 1) = u := by
  simp only [ldAHlInc, perform_next_iff₂, idle_eq, readInto_eq, Host.Outcome.next.injEq]

theorem ldAHlDec_next_iff {s u : State} :
    ldAHlDec s = .next u ↔
      s.cont.map (·.k) = some 0 ∧ s = u ∨
      s.cont.map (·.k) = some 1 ∧ ((s.noteRead s.hl).setReg Reg8.a (s.peek s.hl)).setPair Pair16.hl
        ((s.noteRead s.hl).hl - 1) = u := by
  simp only [ldAHlDec, perform_next_iff₂, idle_eq, readInto_eq, Host.Outcome.next.injEq]

theorem ldHlIncA_next_iff {s u : State} :
    ldHlIncA s = .next u ↔
      s.cont.map (·.k) = some 0 ∧ s = u ∨
      s.cont.map (·.k) = some 1 ∧ (s.memWrite s.hl (s.reg Reg8.a)).setPair Pair16.hl ((s.memWrite s.hl (s.reg
        Reg8.a)).hl + 1) = u := by
  simp only [ldHlIncA, perform_next_iff₂, idle_eq, writeThen_eq, Host.Outcome.next.injEq]

theorem ldHlDecA_next_iff {s u : State} :
    ldHlDecA s = .next u ↔
      s.cont.map (·.k) = some 0 ∧ s = u ∨
      s.cont.map (·.k) = some 1 ∧ (s.memWrite s.hl (s.reg Reg8.a)).setPair Pair16.hl ((s.memWrite s.hl (s.reg
        Reg8.a)).hl - 1) = u := by
  simp only [ldHlDecA, perform_next_iff₂, idle_eq, writeThen_eq, Host.Outcome.next.injEq]

theorem ldAAbs_next_iff {s u : State} :
    ldAAbs s = .next u ↔
      s.cont.map (·.k) = some 0 ∧ s = u ∨
      s.cont.map (·.k) = some 1 ∧ ((s.noteRead s.pc).setPc (s.pc + 1)).setLo (s.peek s.pc) = u ∨
      s.cont.map (·.k) = some 2 ∧ ((s.noteRead s.pc).setPc (s.pc + 1)).setHi (s.peek s.pc) = u ∨
      s.cont.map (·.k) = some 3 ∧ ∃ hi, s.cont.bind (·.hi) = some hi ∧ ∃ lo, s.cont.bind (·.lo) = some lo ∧
        (s.noteRead (joinBytes hi lo)).setReg Reg8.a (s.peek (joinBytes hi lo)) = u := by
  simp only [ldAAbs, perform_next_iff₄, withAddr_next_iff, idle_eq, readInto_eq, fetchInto_eq, fetchLo, fetchHi,
    Host.Outcome.next.injEq]

theorem ldAbsA_next_iff {s u : State} :
    ldAbsA s = .next u ↔
      s.cont.map (·.k) = some 0 ∧ s = u ∨
      s.cont.map (·.k) = some 1 ∧ ((s.noteRead s.pc).setPc (s.pc + 1)).setLo (s.peek s.pc) = u ∨
      s.cont.map (·.k) = some 2 ∧ ((s.noteRead s.pc).setPc (s.pc + 1)).setHi (s.peek s.pc) = u ∨
      s.cont.map (·.k) = some 3 ∧ ∃ hi, s.cont.bind (·.hi) = some hi ∧ ∃ lo, s.cont.bind (·.lo) = some lo ∧
        s.memWrite (joinBytes hi lo) (s.reg Reg8.a) = u := by
  simp only [ldAbsA, perform_next_iff₄, withAddr_next_iff, idle_eq, fetchInto_eq, writeThen_eq, fetchLo, fetchHi,
    Host.Outcome.next.injEq, id]

theorem ldhAImm_next_iff {s u : State} :
    ldhAImm s = .next u ↔
      s.cont.map (·.k) = some 0 ∧ s = u ∨
      s.cont.map (·.k) = some 1 ∧ ((s.noteRead s.pc).setPc (s.pc + 1)).setTmp (s.peek s.pc) = u ∨
      s.cont.map (·.k) = some 2 ∧ ∃ v, s.cont.bind (·.tmp) = some v ∧ (s.noteRead (highPage v)).setReg Reg8.a
        (s.peek (highPage v)) = u := by
  simp only [ldhAImm, perform_next_iff₃, withTmp_next_iff, idle_eq, readInto_eq, fetchInto_eq, fetchTmp,
    Host.Outcome.next.injEq]

theorem ldhImmA_next_iff {s u : State} :
    ldhImmA s = .next u ↔
      s.cont.map (·.k) = some 0 ∧ s = u ∨
      s.cont.map (·.k) = some 1 ∧ ((s.noteRead s.pc).setPc (s.pc + 1)).setTmp (s.peek s.pc) = u ∨
      s.cont.map (·.k) = some 2 ∧ ∃ v, s.cont.bind (·.tmp) = some v ∧ s.memWrite (highPage v) (s.reg Reg8.a) = u := by
  simp only [ldhImmA, perform_next_iff₃, withTmp_next_iff, idle_eq, fetchInto_eq, writeThen_eq, fetchTmp,
    Host.Outcome.next.injEq, id]

theorem ldAC_next_iff {s u : State} :
    ldAC s = .next u ↔
      s.cont.map (·.k) = some 0 ∧ s = u ∨
      s.cont.map (·.k) = some 1 ∧ (s.noteRead (highPage (s.reg Reg8.c))).setReg Reg8.a (s.peek (highPage
        (s.reg Reg8.c))) = u := by
  simp only [ldAC, perform_next_iff₂, idle_eq, readInto_eq, Host.Outcome.next.injEq]

theorem ldCA_next_iff {s u : State} :
    ldCA s = .next u ↔
      s.cont.map (·.k) = some 0 ∧ s = u ∨
      s.cont.map (·.k) = some 1 ∧ s.memWrite (highPage (s.reg Reg8.c)) (s.reg Reg8.a) = u := by
  simp only [ldCA, perform_next_iff₂, idle_eq, writeThen_eq, Host.Outcome.next.injEq, id]

theorem ldPairImm_next_iff (p : Pair16) {s u : State} :
    ldPairImm p s = .next u ↔
      s.cont.map (·.k) = some 0 ∧ s = u ∨
      s.cont.map (·.k) = some 1 ∧ ((s.noteRead s.pc).setPc (s.pc + 1)).setLo (s.peek s.pc) = u ∨
      s.cont.map (·.k) = some 2 ∧ ∃ v, s.cont.bind (·.lo) = some v ∧ (((s.noteRead s.pc).setPc (s.pc +
        1)).setHi (s.peek s.pc)).setPair p (joinBytes (s.peek s.pc) v) = u := by
  simp only [ldPairImm, perform_next_iff₃, withLo_next_iff, idle_eq, fetchInto_eq, fetchLo, Host.Outcome.next.injEq]

theorem ldAbsSp_next_iff {s u : State} :
    ldAbsSp s = .next u ↔
      s.cont.map (·.k) = some 0 ∧ s = u ∨
      s.cont.map (·.k) = some 1 ∧ ((s.noteRead s.pc).setPc (s.pc + 1)).setLo (s.peek s.pc) = u ∨
      s.cont.map (·.k) = some 2 ∧ ((s.noteRead s.pc).setPc (s.pc + 1)).setHi (s.peek s.pc) = u ∨
      (s.cont.map (·.k) = some 3 ∧ ∃ hi, s.cont.bind (·.hi) = some hi ∧ ∃ lo, s.cont.bind (·.lo) = some lo ∧
        s.memWrite (joinBytes hi lo) (lowByte s.sp) = u) ∨
      s.cont.map (·.k) = some 4 ∧ ∃ hi, s.cont.bind (·.hi) = some hi ∧ ∃ lo, s.cont.bind (·.lo) = some lo ∧
        s.memWrite (joinBytes hi lo + 1) (highByte s.sp) = u := by
  simp only [ldAbsSp, perform_next_iff₅, withAddr_next_iff, idle_eq, fetchInto_eq, writeThen_eq, fetchLo, fetchHi,
    Host.Outcome.next.injEq, id]

theorem ldSpHl_next_iff {s u : State} :
    ldSpHl s = .next u ↔
      s.cont.map (·.k) = some 0 ∧ s = u ∨
      s.cont.map (·.k) = some 1 ∧ s.setSp s.hl = u := by
  simp only [ldSpHl, perform_next_iff₂, idle_eq, act_eq, Host.Outcome.next.injEq]

theorem push_next_iff (q : StackPair) {s u : State} :
    push q s = .next u ↔
      s.cont.map (·.k) = some 0 ∧ s = u ∨
      s.cont.map (·.k) = some 1 ∧ s.setSp (s.sp - 1) = u ∨
      s.cont.map (·.k) = some 2 ∧ (s.memWrite s.sp (highByte (s.regs.stackPair q))).setSp ((s.memWrite s.sp (highByte
        (s.regs.stackPair q))).sp - 1) = u ∨
      s.cont.map (·.k) = some 3 ∧ s.memWrite s.sp (lowByte (s.regs.stackPair q)) = u := by
  simp only [push, perform_next_iff₄, idle_eq, act_eq, writeThen_eq, decSp, pushHigh, pushLow,
    Host.Outcome.next.injEq, id]

theorem pop_next_iff (q : StackPair) {s u : State} :
    pop q s = .next u ↔
      s.cont.map (·.k) = some 0 ∧ s = u ∨
      s.cont.map (·.k) = some 1 ∧ ((s.noteRead s.sp).setLo (s.peek s.sp)).setSp ((s.noteRead s.sp).sp + 1) = u ∨
      s.cont.map (·.k) = some 2 ∧ ∃ v, s.cont.bind (·.lo) = some v ∧ (((s.noteRead s.sp).setHi (s.peek
        s.sp)).setSp ((s.noteRead s.sp).sp + 1)).setStackPair q (joinBytes (s.peek s.sp) v) = u := by
  simp only [pop, perform_next_iff₃, withLo_next_iff, idle_eq, readInto_eq, popLo, Host.Outcome.next.injEq]

theorem aluReg_next_iff (op : AluOp) (r : Reg8) {s u : State} :
    aluReg op r s = .next u ↔
      s.cont.map (·.k) = some 0 ∧ s.operate op (s.reg r) = u := by
  simp only [aluReg, perform_next_iff₁, act_eq, Host.Outcome.next.injEq]

theorem aluHl_next_iff (op : AluOp) {s u : State} :
    aluHl op s = .next u ↔
      s.cont.map (·.k) = some 0 ∧ s = u ∨
      s.cont.map (·.k) = some 1 ∧ (s.noteRead s.hl).operate op (s.peek s.hl) = u := by
  simp only [aluHl, perform_next_iff₂, idle_eq, readInto_eq, Host.Outcome.next.injEq]

theorem aluImm_next_iff (op : AluOp) {s u : State} :
    aluImm op s = .next u ↔
      s.cont.map (·.k) = some 0 ∧ s = u ∨
      s.cont.map (·.k) = some 1 ∧ ((s.noteRead s.pc).setPc (s.pc + 1)).operate op (s.peek s.pc) = u := by
  simp only [aluImm, perform_next_iff₂, idle_eq, fetchInto_eq, Host.Outcome.next.injEq]

theorem incReg_next_iff (r : Reg8) {s u : State} :
    incReg r s = .next u ↔
      s.cont.map (·.k) = some 0 ∧ s.setResult r (inc8 (s.reg r) s.regs.flags) = u := by
  simp only [incReg, perform_next_iff₁, act_eq, Host.Outcome.next.injEq]

theorem incHl_next_iff {s u : State} :
    incHl s = .next u ↔
      s.cont.map (·.k) = some 0 ∧ s = u ∨
      s.cont.map (·.k) = some 1 ∧ (s.noteRead s.hl).setTmp (s.peek s.hl) = u ∨
      s.cont.map (·.k) = some 2 ∧ ∃ v, s.cont.bind (·.tmp) = some v ∧ (s.memWrite s.hl (inc8 v
        s.regs.flags).1).setFlags (inc8 v s.regs.flags).2 = u := by
  simp only [incHl, perform_next_iff₃, withTmp_next_iff, idle_eq, readInto_eq, modifyHl, readHlTmp,
    Host.Outcome.next.injEq]

theorem decReg_next_iff (r : Reg8) {s u : State} :
    decReg r s = .next u ↔
      s.cont.map (·.k) = some 0 ∧ s.setResult r (dec8 (s.reg r) s.regs.flags) = u := by
  simp only [decReg, perform_next_iff₁, act_eq, Host.Outcome.next.injEq]

theorem decHl_next_iff {s u : State} :
    decHl s = .next u ↔
      s.cont.map (·.k) = some 0 ∧ s = u ∨
      s.cont.map (·.k) = some 1 ∧ (s.noteRead s.hl).setTmp (s.peek s.hl) = u ∨
      s.cont.map (·.k) = some 2 ∧ ∃ v, s.cont.bind (·.tmp) = some v ∧ (s.memWrite s.hl (dec8 v
        s.regs.flags).1).setFlags (dec8 v s.regs.flags).2 = u := by
  simp only [decHl, perform_next_iff₃, withTmp_next_iff, idle_eq, readInto_eq, modifyHl, readHlTmp,
    Host.Outcome.next.injEq]

theorem daa_next_iff {s u : State} :
    daa s = .next u ↔
      s.cont.map (·.k) = some 0 ∧ s.setResult Reg8.a (daa8 s.regs.a s.regs.flags) = u := by
  simp only [daa, perform_next_iff₁, act_eq, Host.Outcome.next.injEq]

theorem cpl_next_iff {s u : State} :
    cpl s = .next u ↔
      s.cont.map (·.k) = some 0 ∧ s.setResult Reg8.a
        (s.regs.a ^^^ 255, ⟨s.regs.flags.z, true, true, s.regs.flags.c⟩) = u := by
  simp only [cpl, perform_next_iff₁, act_eq, Host.Outcome.next.injEq]

theorem scf_next_iff {s u : State} :
    scf s = .next u ↔
      s.cont.map (·.k) = some 0 ∧ s.setFlags { z := s.regs.flags.z, n := false, h := false, c := true } = u := by
  simp only [scf, perform_next_iff₁, act_eq, Host.Outcome.next.injEq]

theorem ccf_next_iff {s u : State} :
    ccf s = .next u ↔
      s.cont.map (·.k) = some 0 ∧ s.setFlags { z := s.regs.flags.z, n := false, h := false, c :=
        !s.regs.flags.c } = u := by
  simp only [ccf, perform_next_iff₁, act_eq, Host.Outcome.next.injEq]

theorem addHl_next_iff (p : Pair16) {s u : State} :
    addHl p s = .next u ↔
      s.cont.map (·.k) = some 0 ∧ s = u ∨
      s.cont.map (·.k) = some 1 ∧ (s.setPair Pair16.hl (add16 s.hl (s.pair p) s.regs.flags).1).setFlags (add16
        s.hl (s.pair p) s.regs.flags).2 = u := by
  simp only [addHl, perform_next_iff₂, idle_eq, act_eq, Host.Outcome.next.injEq]

theorem incPair_next_iff (p : Pair16) {s u : State} :
    incPair p s = .next u ↔
      s.cont.map (·.k) = some 0 ∧ s = u ∨
      s.cont.map (·.k) = some 1 ∧ s.setPair p (s.pair p + 1) = u := by
  simp only [incPair, perform_next_iff₂, idle_eq, act_eq, Host.Outcome.next.injEq]

theorem decPair_next_iff (p : Pair16) {s u : State} :
    decPair p s = .next u ↔
      s.cont.map (·.k) = some 0 ∧ s = u ∨
      s.cont.map (·.k) = some 1 ∧ s.setPair p (s.pair p - 1) = u := by
  simp only [decPair, perform_next_iff₂, idle_eq, act_eq, Host.Outcome.next.injEq]

theorem addSp_next_iff {s u : State} :
    addSp s = .next u ↔
      s.cont.map (·.k) = some 0 ∧ s = u ∨
      s.cont.map (·.k) = some 1 ∧ ((s.noteRead s.pc).setPc (s.pc + 1)).setTmp (s.peek s.pc) = u ∨
      s.cont.map (·.k) = some 2 ∧ s = u ∨
      s.cont.map (·.k) = some 3 ∧ ∃ v, s.cont.bind (·.tmp) = some v ∧ (s.setSp (addSigned s.sp v).1).setFlags
        (addSigned s.sp v).2 = u := by
  simp only [addSp, perform_next_iff₄, withTmp_next_iff, idle_eq, act_eq, fetchInto_eq, fetchTmp,
    Host.Outcome.next.injEq]

theorem ldHlSp_next_iff {s u : State} :
    ldHlSp s = .next u ↔
      s.cont.map (·.k) = some 0 ∧ s = u ∨
      s.cont.map (·.k) = some 1 ∧ ((s.noteRead s.pc).setPc (s.pc + 1)).setTmp (s.peek s.pc) = u ∨
      s.cont.map (·.k) = some 2 ∧ ∃ v, s.cont.bind (·.tmp) = some v ∧ (s.setPair Pair16.hl (addSigned s.sp
        v).1).setFlags (addSigned s.sp v).2 = u := by
  simp only [ldHlSp, perform_next_iff₃, withTmp_next_iff, idle_eq, act_eq, fetchInto_eq, fetchTmp,
    Host.Outcome.next.injEq]

theorem rotateA_next_iff (op : RotOp) {s u : State} :
    rotateA op s = .next u ↔
      s.cont.map (·.k) = some 0 ∧ s.setResult Reg8.a (rotAcc op s.regs.a s.regs.flags) = u := by
  simp only [rotateA, perform_next_iff₁, act_eq, Host.Outcome.next.injEq]

theorem rotReg_next_iff (op : RotOp) (r : Reg8) {s u : State} :
    rotReg op r s = .next u ↔
      s.cont.map (·.k) = some 0 ∧ s = u ∨
      s.cont.map (·.k) = some 1 ∧ s.setResult r (rotCb op (s.reg r) s.regs.flags) = u := by
  simp only [rotReg, perform_next_iff₂, idle_eq, act_eq, Host.Outcome.next.injEq]

theorem rotHl_next_iff (op : RotOp) {s u : State} :
    rotHl op s = .next u ↔
      s.cont.map (·.k) = some 0 ∧ s = u ∨
      s.cont.map (·.k) = some 1 ∧ s = u ∨
      s.cont.map (·.k) = some 2 ∧ (s.noteRead s.hl).setTmp (s.peek s.hl) = u ∨
      s.cont.map (·.k) = some 3 ∧ ∃ v, s.cont.bind (·.tmp) = some v ∧ (s.memWrite s.hl (rotCb op v
        s.regs.flags).1).setFlags (rotCb op v s.regs.flags).2 = u := by
  simp only [rotHl, perform_next_iff₄, withTmp_next_iff, idle_eq, readInto_eq, modifyHl, readHlTmp,
    Host.Outcome.next.injEq]

theorem bitReg_next_iff (b : Oct) (r : Reg8) {s u : State} :
    bitReg b r s = .next u ↔
      s.cont.map (·.k) = some 0 ∧ s = u ∨
      s.cont.map (·.k) = some 1 ∧ s.setFlags (bitFlags b.toNat (s.reg r) s.regs.flags) = u := by
  simp only [bitReg, perform_next_iff₂, idle_eq, act_eq, Host.Outcome.next.injEq]

theorem bitHl_next_iff (b : Oct) {s u : State} :
    bitHl b s = .next u ↔
      s.cont.map (·.k) = some 0 ∧ s = u ∨
      s.cont.map (·.k) = some 1 ∧ s = u ∨
      s.cont.map (·.k) = some 2 ∧ ((s.noteRead s.hl).setTmp (s.peek s.hl)).setFlags (bitFlags b.toNat (s.peek
        s.hl) (s.noteRead s.hl).regs.flags) = u := by
  simp only [bitHl, perform_next_iff₃, idle_eq, readInto_eq, Host.Outcome.next.injEq]

theorem resReg_next_iff (b : Oct) (r : Reg8) {s u : State} :
    resReg b r s = .next u ↔
      s.cont.map (·.k) = some 0 ∧ s = u ∨
      s.cont.map (·.k) = some 1 ∧ s.setReg r (clearBit b.toNat (s.reg r)) = u := by
  simp only [resReg, perform_next_iff₂, idle_eq, act_eq, Host.Outcome.next.injEq]

theorem resHl_next_iff (b : Oct) {s u : State} :
    resHl b s = .next u ↔
      s.cont.map (·.k) = some 0 ∧ s = u ∨
      s.cont.map (·.k) = some 1 ∧ s = u ∨
      s.cont.map (·.k) = some 2 ∧ (s.noteRead s.hl).setTmp (s.peek s.hl) = u ∨
      s.cont.map (·.k) = some 3 ∧ ∃ v, s.cont.bind (·.tmp) = some v ∧ s.memWrite s.hl (clearBit b.toNat v) = u := by
  simp only [resHl, perform_next_iff₄, withTmp_next_iff, idle_eq, readInto_eq, writeThen_eq, readHlTmp,
    Host.Outcome.next.injEq, id]

theorem setReg_next_iff (b : Oct) (r : Reg8) {s u : State} :
    setReg b r s = .next u ↔
      s.cont.map (·.k) = some 0 ∧ s = u ∨
      s.cont.map (·.k) = some 1 ∧ s.setReg r (assertBit b.toNat (s.reg r)) = u := by
  simp only [setReg, perform_next_iff₂, idle_eq, act_eq, Host.Outcome.next.injEq]

theorem setHl_next_iff (b : Oct) {s u : State} :
    setHl b s = .next u ↔
      s.cont.map (·.k) = some 0 ∧ s = u ∨
      s.cont.map (·.k) = some 1 ∧ s = u ∨
      s.cont.map (·.k) = some 2 ∧ (s.noteRead s.hl).setTmp (s.peek s.hl) = u ∨
      s.cont.map (·.k) = some 3 ∧ ∃ v, s.cont.bind (·.tmp) = some v ∧ s.memWrite s.hl (assertBit b.toNat v) = u := by
  simp only [setHl, perform_next_iff₄, withTmp_next_iff, idle_eq, readInto_eq, writeThen_eq, readHlTmp,
    Host.Outcome.next.injEq, id]

theorem jp_next_iff {s u : State} :
    jp s = .next u ↔
      s.cont.map (·.k) = some 0 ∧ s = u ∨
      s.cont.map (·.k) = some 1 ∧ ((s.noteRead s.pc).setPc (s.pc + 1)).setLo (s.peek s.pc) = u ∨
      s.cont.map (·.k) = some 2 ∧ ((s.noteRead s.pc).setPc (s.pc + 1)).setHi (s.peek s.pc) = u ∨
      s.cont.map (·.k) = some 3 ∧ ∃ hi, s.cont.bind (·.hi) = some hi ∧ ∃ lo, s.cont.bind (·.lo) = some lo ∧
        s.setPc (joinBytes hi lo) = u := by
  simp only [jp, perform_next_iff₄, withAddr_next_iff, idle_eq, act_eq, fetchInto_eq, fetchLo, fetchHi, jumpAddr,
    Host.Outcome.next.injEq]

theorem jpCc_next_iff (cc : Cond) {s u : State} :
    jpCc cc s = .next u ↔
      s.cont.map (·.k) = some 0 ∧ s = u ∨
      s.cont.map (·.k) = some 1 ∧ ((s.noteRead s.pc).setPc (s.pc + 1)).setLo (s.peek s.pc) = u ∨
      s.cont.map (·.k) = some 2 ∧ (((s.noteRead s.pc).setPc (s.pc + 1)).setHi (s.peek s.pc)).branchIf cc 1 = u ∨
      s.cont.map (·.k) = some 3 ∧ ∃ hi, s.cont.bind (·.hi) = some hi ∧ ∃ lo, s.cont.bind (·.lo) = some lo ∧
        s.setPc (joinBytes hi lo) = u := by
  simp only [jpCc, perform_next_iff₄, withAddr_next_iff, idle_eq, act_eq, fetchInto_eq, fetchLo, jumpAddr,
    Host.Outcome.next.injEq]

theorem jpHl_next_iff {s u : State} :
    jpHl s = .next u ↔
      s.cont.map (·.k) = some 0 ∧ s.setPc s.hl = u := by
  simp only [jpHl, perform_next_iff₁, act_eq, Host.Outcome.next.injEq]

theorem jr_next_iff {s u : State} :
    jr s = .next u ↔
      s.cont.map (·.k) = some 0 ∧ s = u ∨
      s.cont.map (·.k) = some 1 ∧ ((s.noteRead s.pc).setPc (s.pc + 1)).setTmp (s.peek s.pc) = u ∨
      s.cont.map (·.k) = some 2 ∧ ∃ v, s.cont.bind (·.tmp) = some v ∧ s.setPc (s.pc + sext16 v) = u := by
  simp only [jr, perform_next_iff₃, withTmp_next_iff, idle_eq, act_eq, fetchInto_eq, fetchTmp, jumpRel,
    Host.Outcome.next.injEq]

theorem jrCc_next_iff (cc : Cond) {s u : State} :
    jrCc cc s = .next u ↔
      s.cont.map (·.k) = some 0 ∧ s = u ∨
      s.cont.map (·.k) = some 1 ∧ (((s.noteRead s.pc).setPc (s.pc + 1)).setTmp (s.peek s.pc)).branchIf cc 1 = u ∨
      s.cont.map (·.k) = some 2 ∧ ∃ v, s.cont.bind (·.tmp) = some v ∧ s.setPc (s.pc + sext16 v) = u := by
  simp only [jrCc, perform_next_iff₃, withTmp_next_iff, idle_eq, act_eq, fetchInto_eq, jumpRel,
    Host.Outcome.next.injEq]

theorem call_next_iff {s u : State} :
    call s = .next u ↔
      s.cont.map (·.k) = some 0 ∧ s = u ∨
      s.cont.map (·.k) = some 1 ∧ ((s.noteRead s.pc).setPc (s.pc + 1)).setLo (s.peek s.pc) = u ∨
      s.cont.map (·.k) = some 2 ∧ ((s.noteRead s.pc).setPc (s.pc + 1)).setHi (s.peek s.pc) = u ∨
      s.cont.map (·.k) = some 3 ∧ s.setSp (s.sp - 1) = u ∨
      s.cont.map (·.k) = some 4 ∧ (s.memWrite s.sp (highByte s.pc)).setSp ((s.memWrite s.sp (highByte s.pc)).sp - 1) =
        u ∨
      s.cont.map (·.k) = some 5 ∧ ∃ hi, s.cont.bind (·.hi) = some hi ∧ ∃ lo, s.cont.bind (·.lo) = some lo ∧
        (s.memWrite s.sp (lowByte s.pc)).setPc (joinBytes hi lo) = u := by
  simp only [call, perform_next_iff₆, withAddr_next_iff, idle_eq, act_eq, fetchInto_eq, writeThen_eq, fetchLo,
    fetchHi, decSp, pushHigh, pushLow, callJump, Host.Outcome.next.injEq]

theorem callCc_next_iff (cc : Cond) {s u : State} :
    callCc cc s = .next u ↔
      s.cont.map (·.k) = some 0 ∧ s = u ∨
      s.cont.map (·.k) = some 1 ∧ ((s.noteRead s.pc).setPc (s.pc + 1)).setLo (s.peek s.pc) = u ∨
      s.cont.map (·.k) = some 2 ∧ (((s.noteRead s.pc).setPc (s.pc + 1)).setHi (s.peek s.pc)).branchIf cc 3 = u ∨
      s.cont.map (·.k) = some 3 ∧ s.setSp (s.sp - 1) = u ∨
      s.cont.map (·.k) = some 4 ∧ (s.memWrite s.sp (highByte s.pc)).setSp ((s.memWrite s.sp (highByte s.pc)).sp - 1) =
        u ∨
      s.cont.map (·.k) = some 5 ∧ ∃ hi, s.cont.bind (·.hi) = some hi ∧ ∃ lo, s.cont.bind (·.lo) = some lo ∧
        (s.memWrite s.sp (lowByte s.pc)).setPc (joinBytes hi lo) = u := by
  simp only [callCc, perform_next_iff₆, withAddr_next_iff, idle_eq, act_eq, fetchInto_eq, writeThen_eq, fetchLo,
    decSp, pushHigh, pushLow, callJump, Host.Outcome.next.injEq]

theorem rst_next_iff (t : Oct) {s u : State} :
    rst t s = .next u ↔
      s.cont.map (·.k) = some 0 ∧ s = u ∨
      s.cont.map (·.k) = some 1 ∧ s.setSp (s.sp - 1) = u ∨
      s.cont.map (·.k) = some 2 ∧ (s.memWrite s.sp (highByte s.pc)).setSp ((s.memWrite s.sp (highByte s.pc)).sp - 1) =
        u ∨
      s.cont.map (·.k) = some 3 ∧ (s.memWrite s.sp (lowByte s.pc)).setPc (rstTarget t) = u := by
  simp only [rst, perform_next_iff₄, idle_eq, act_eq, writeThen_eq, decSp, pushHigh, pushLow, Host.Outcome.next.injEq]

theorem retCc_next_iff (cc : Cond) {s u : State} :
    retCc cc s = .next u ↔
      s.cont.map (·.k) = some 0 ∧ s = u ∨
      s.cont.map (·.k) = some 1 ∧ s.branchIf cc 3 = u ∨
      s.cont.map (·.k) = some 2 ∧ ((s.noteRead s.sp).setLo (s.peek s.sp)).setSp ((s.noteRead s.sp).sp + 1) = u ∨
      s.cont.map (·.k) = some 3 ∧ ((s.noteRead s.sp).setHi (s.peek s.sp)).setSp ((s.noteRead s.sp).sp + 1) = u ∨
      s.cont.map (·.k) = some 4 ∧ ∃ hi, s.cont.bind (·.hi) = some hi ∧ ∃ lo, s.cont.bind (·.lo) = some lo ∧
        s.setPc (joinBytes hi lo) = u := by
  simp only [retCc, perform_next_iff₅, withAddr_next_iff, idle_eq, act_eq, readInto_eq, popLo, popHi, jumpAddr,
    Host.Outcome.next.injEq]

theorem nop_next_iff {s u : State} :
    nop s = .next u ↔
      s.cont.map (·.k) = some 0 ∧ s = u := by
  simp only [nop, perform_next_iff₁, idle_eq, Host.Outcome.next.injEq]

theorem halt_next_iff {s u : State} :
    halt s = .next u ↔
      s.cont.map (·.k) = some 0 ∧ s.halt = u := by
  simp only [halt, perform_next_iff₁, act_eq, Host.Outcome.next.injEq]

theorem stop_next_iff {s u : State} :
    stop s = .next u ↔
      s.cont.map (·.k) = some 0 ∧ { s.setPc (s.pc + 1) with stopped := true } = u := by
  simp only [stop, perform_next_iff₁, act_eq, Host.Outcome.next.injEq]

theorem di_next_iff {s u : State} :
    di s = .next u ↔
      s.cont.map (·.k) = some 0 ∧ { s with ime := false } = u := by
  simp only [di, perform_next_iff₁, act_eq, Host.Outcome.next.injEq]

theorem ei_next_iff {s u : State} :
    ei s = .next u ↔
      s.cont.map (·.k) = some 0 ∧ { s with delay := true } = u := by
  simp only [ei, perform_next_iff₁, act_eq, Host.Outcome.next.injEq]

theorem prefixCB_next_iff {s u : State} :
    prefixCB s = .next u ↔
      s.cont.map (·.k) = some 0 ∧ s = u ∨
      s.cont.map (·.k) = some 1 ∧ ((s.noteRead s.pc).setPc (s.pc + 1)).dispatchCb (s.peek s.pc) = u := by
  simp only [prefixCB, perform_next_iff₂, idle_eq, fetchInto_eq, Host.Outcome.next.injEq]

theorem undef_next_iff {s u : State} :
    undef s = .next u ↔
      s.cont.map (·.k) = some 0 ∧ ∃ op, s.cont.bind (·.op) = some op ∧ ∃ a, s.cont.bind (·.opAddr) = some a ∧
        { s with diagLog := s.diagLog ++ [(op, a)] } = u := by
  simp only [undef, perform_next_iff₁, withOpcode_next_iff, act_eq, Host.Outcome.next.injEq]

theorem returnFrom_next_iff {s u : State} :
    returnFrom s = .next u ↔
      s.cont.map (·.k) = some 0 ∧ s = u ∨
      s.cont.map (·.k) = some 1 ∧ ((s.noteRead s.sp).setLo (s.peek s.sp)).setSp ((s.noteRead s.sp).sp + 1) = u ∨
      s.cont.map (·.k) = some 2 ∧ ((s.noteRead s.sp).setHi (s.peek s.sp)).setSp ((s.noteRead s.sp).sp + 1) = u ∨
      s.cont.map (·.k) = some 3 ∧ ∃ hi, s.cont.bind (·.hi) = some hi ∧ ∃ lo, s.cont.bind (·.lo) = some lo ∧
        s.setPc (joinBytes hi lo) = u := by
  simp only [returnFrom, perform_next_iff₄, withAddr_next_iff, idle_eq, act_eq, readInto_eq, popLo, popHi, jumpAddr,
    Host.Outcome.next.injEq]

theorem returnFromInterrupt_next_iff {s u : State} :
    returnFromInterrupt s = .next u ↔
      s.cont.map (·.k) = some 0 ∧ s = u ∨
      s.cont.map (·.k) = some 1 ∧ ((s.noteRead s.sp).setLo (s.peek s.sp)).setSp ((s.noteRead s.sp).sp + 1) = u ∨
      s.cont.map (·.k) = some 2 ∧ ((s.noteRead s.sp).setHi (s.peek s.sp)).setSp ((s.noteRead s.sp).sp + 1) = u ∨
      s.cont.map (·.k) = some 3 ∧ ∃ hi, s.cont.bind (·.hi) = some hi ∧ ∃ lo, s.cont.bind (·.lo) = some lo ∧ {
        s.setPc (joinBytes hi lo) with ime := true } = u := by
  simp only [returnFromInterrupt, perform_next_iff₄, withAddr_next_iff, idle_eq, act_eq, readInto_eq, popLo, popHi,
    Host.Outcome.next.injEq]

end Sys2Proof.Machine
end

