-- ==== Sys2Proof/Laws/PerInstr.lean ====
section
/-! SUPPORT. Two facts about every instruction as syntax, one lemma per constructor: the decoder reads the instruction
from its opcode, and the instruction's operand count agrees with the length its table gives it. -/

namespace Sys2Proof.Laws

/-- The length the tables give the entry of an opcode (R103, R114): a CB opcode has two bytes. -/
def tableLength : Opcode → Nat
  | .base op => lengthBase op
  | .cb _ => 2

/-- Decoding an instruction's opcode gives the instruction (R111, R113). -/
def OpcodeRoundTrip.Statement (i : Instr) : Prop := i.opcode.instr = i

/-- The opcode bytes and the operand bytes of a whole instruction are as many as the length table says (R114). -/
def EntryLength.Statement (i : Instr) : Prop :=
  i ≠ .prefixCB → i.opcode.bytes.length + i.form.operandBytes = tableLength i.opcode

/-! ### OpcodeRoundTrip -/

theorem OpcodeRoundTrip.nop : OpcodeRoundTrip.Statement .nop := rfl
theorem OpcodeRoundTrip.ldBcN16 : OpcodeRoundTrip.Statement .ldBcN16 := rfl
theorem OpcodeRoundTrip.ldAtBcA : OpcodeRoundTrip.Statement .ldAtBcA := rfl
theorem OpcodeRoundTrip.incBc : OpcodeRoundTrip.Statement .incBc := rfl
theorem OpcodeRoundTrip.incB : OpcodeRoundTrip.Statement .incB := rfl
theorem OpcodeRoundTrip.decB : OpcodeRoundTrip.Statement .decB := rfl
theorem OpcodeRoundTrip.ldBN8 : OpcodeRoundTrip.Statement .ldBN8 := rfl
theorem OpcodeRoundTrip.rlca : OpcodeRoundTrip.Statement .rlca := rfl
theorem OpcodeRoundTrip.ldAtN16Sp : OpcodeRoundTrip.Statement .ldAtN16Sp := rfl
theorem OpcodeRoundTrip.addHlBc : OpcodeRoundTrip.Statement .addHlBc := rfl
theorem OpcodeRoundTrip.ldAAtBc : OpcodeRoundTrip.Statement .ldAAtBc := rfl
theorem OpcodeRoundTrip.decBc : OpcodeRoundTrip.Statement .decBc := rfl
theorem OpcodeRoundTrip.incC : OpcodeRoundTrip.Statement .incC := rfl
theorem OpcodeRoundTrip.decC : OpcodeRoundTrip.Statement .decC := rfl
theorem OpcodeRoundTrip.ldCN8 : OpcodeRoundTrip.Statement .ldCN8 := rfl
theorem OpcodeRoundTrip.rrca : OpcodeRoundTrip.Statement .rrca := rfl
theorem OpcodeRoundTrip.stop : OpcodeRoundTrip.Statement .stop := rfl
theorem OpcodeRoundTrip.ldDeN16 : OpcodeRoundTrip.Statement .ldDeN16 := rfl
theorem OpcodeRoundTrip.ldAtDeA : OpcodeRoundTrip.Statement .ldAtDeA := rfl
theorem OpcodeRoundTrip.incDe : OpcodeRoundTrip.Statement .incDe := rfl
theorem OpcodeRoundTrip.incD : OpcodeRoundTrip.Statement .incD := rfl
theorem OpcodeRoundTrip.decD : OpcodeRoundTrip.Statement .decD := rfl
theorem OpcodeRoundTrip.ldDN8 : OpcodeRoundTrip.Statement .ldDN8 := rfl
theorem OpcodeRoundTrip.rla : OpcodeRoundTrip.Statement .rla := rfl
theorem OpcodeRoundTrip.jrE8 : OpcodeRoundTrip.Statement .jrE8 := rfl
theorem OpcodeRoundTrip.addHlDe : OpcodeRoundTrip.Statement .addHlDe := rfl
theorem OpcodeRoundTrip.ldAAtDe : OpcodeRoundTrip.Statement .ldAAtDe := rfl
theorem OpcodeRoundTrip.decDe : OpcodeRoundTrip.Statement .decDe := rfl
theorem OpcodeRoundTrip.incE : OpcodeRoundTrip.Statement .incE := rfl
theorem OpcodeRoundTrip.decE : OpcodeRoundTrip.Statement .decE := rfl
theorem OpcodeRoundTrip.ldEN8 : OpcodeRoundTrip.Statement .ldEN8 := rfl
theorem OpcodeRoundTrip.rra : OpcodeRoundTrip.Statement .rra := rfl
theorem OpcodeRoundTrip.jrNzE8 : OpcodeRoundTrip.Statement .jrNzE8 := rfl
theorem OpcodeRoundTrip.ldHlN16 : OpcodeRoundTrip.Statement .ldHlN16 := rfl
theorem OpcodeRoundTrip.ldAtHlIncA : OpcodeRoundTrip.Statement .ldAtHlIncA := rfl
theorem OpcodeRoundTrip.incHl : OpcodeRoundTrip.Statement .incHl := rfl
theorem OpcodeRoundTrip.incH : OpcodeRoundTrip.Statement .incH := rfl
theorem OpcodeRoundTrip.decH : OpcodeRoundTrip.Statement .decH := rfl
theorem OpcodeRoundTrip.ldHN8 : OpcodeRoundTrip.Statement .ldHN8 := rfl
theorem OpcodeRoundTrip.daa : OpcodeRoundTrip.Statement .daa := rfl
theorem OpcodeRoundTrip.jrZE8 : OpcodeRoundTrip.Statement .jrZE8 := rfl
theorem OpcodeRoundTrip.addHlHl : OpcodeRoundTrip.Statement .addHlHl := rfl
theorem OpcodeRoundTrip.ldAAtHlInc : OpcodeRoundTrip.Statement .ldAAtHlInc := rfl
theorem OpcodeRoundTrip.decHl : OpcodeRoundTrip.Statement .decHl := rfl
theorem OpcodeRoundTrip.incL : OpcodeRoundTrip.Statement .incL := rfl
theorem OpcodeRoundTrip.decL : OpcodeRoundTrip.Statement .decL := rfl
theorem OpcodeRoundTrip.ldLN8 : OpcodeRoundTrip.Statement .ldLN8 := rfl
theorem OpcodeRoundTrip.cpl : OpcodeRoundTrip.Statement .cpl := rfl
theorem OpcodeRoundTrip.jrNcE8 : OpcodeRoundTrip.Statement .jrNcE8 := rfl
theorem OpcodeRoundTrip.ldSpN16 : OpcodeRoundTrip.Statement .ldSpN16 := rfl
theorem OpcodeRoundTrip.ldAtHlDecA : OpcodeRoundTrip.Statement .ldAtHlDecA := rfl
theorem OpcodeRoundTrip.incSp : OpcodeRoundTrip.Statement .incSp := rfl
theorem OpcodeRoundTrip.incAtHl : OpcodeRoundTrip.Statement .incAtHl := rfl
theorem OpcodeRoundTrip.decAtHl : OpcodeRoundTrip.Statement .decAtHl := rfl
theorem OpcodeRoundTrip.ldAtHlN8 : OpcodeRoundTrip.Statement .ldAtHlN8 := rfl
theorem OpcodeRoundTrip.scf : OpcodeRoundTrip.Statement .scf := rfl
theorem OpcodeRoundTrip.jrCE8 : OpcodeRoundTrip.Statement .jrCE8 := rfl
theorem OpcodeRoundTrip.addHlSp : OpcodeRoundTrip.Statement .addHlSp := rfl
theorem OpcodeRoundTrip.ldAAtHlDec : OpcodeRoundTrip.Statement .ldAAtHlDec := rfl
theorem OpcodeRoundTrip.decSp : OpcodeRoundTrip.Statement .decSp := rfl
theorem OpcodeRoundTrip.incA : OpcodeRoundTrip.Statement .incA := rfl
theorem OpcodeRoundTrip.decA : OpcodeRoundTrip.Statement .decA := rfl
theorem OpcodeRoundTrip.ldAN8 : OpcodeRoundTrip.Statement .ldAN8 := rfl
theorem OpcodeRoundTrip.ccf : OpcodeRoundTrip.Statement .ccf := rfl
theorem OpcodeRoundTrip.ldBB : OpcodeRoundTrip.Statement .ldBB := rfl
theorem OpcodeRoundTrip.ldBC : OpcodeRoundTrip.Statement .ldBC := rfl
theorem OpcodeRoundTrip.ldBD : OpcodeRoundTrip.Statement .ldBD := rfl
theorem OpcodeRoundTrip.ldBE : OpcodeRoundTrip.Statement .ldBE := rfl
theorem OpcodeRoundTrip.ldBH : OpcodeRoundTrip.Statement .ldBH := rfl
theorem OpcodeRoundTrip.ldBL : OpcodeRoundTrip.Statement .ldBL := rfl
theorem OpcodeRoundTrip.ldBAtHl : OpcodeRoundTrip.Statement .ldBAtHl := rfl
theorem OpcodeRoundTrip.ldBA : OpcodeRoundTrip.Statement .ldBA := rfl
theorem OpcodeRoundTrip.ldCB : OpcodeRoundTrip.Statement .ldCB := rfl
theorem OpcodeRoundTrip.ldCC : OpcodeRoundTrip.Statement .ldCC := rfl
theorem OpcodeRoundTrip.ldCD : OpcodeRoundTrip.Statement .ldCD := rfl
theorem OpcodeRoundTrip.ldCE : OpcodeRoundTrip.Statement .ldCE := rfl
theorem OpcodeRoundTrip.ldCH : OpcodeRoundTrip.Statement .ldCH := rfl
theorem OpcodeRoundTrip.ldCL : OpcodeRoundTrip.Statement .ldCL := rfl
theorem OpcodeRoundTrip.ldCAtHl : OpcodeRoundTrip.Statement .ldCAtHl := rfl
theorem OpcodeRoundTrip.ldCA : OpcodeRoundTrip.Statement .ldCA := rfl
theorem OpcodeRoundTrip.ldDB : OpcodeRoundTrip.Statement .ldDB := rfl
theorem OpcodeRoundTrip.ldDC : OpcodeRoundTrip.Statement .ldDC := rfl
theorem OpcodeRoundTrip.ldDD : OpcodeRoundTrip.Statement .ldDD := rfl
theorem OpcodeRoundTrip.ldDE : OpcodeRoundTrip.Statement .ldDE := rfl
theorem OpcodeRoundTrip.ldDH : OpcodeRoundTrip.Statement .ldDH := rfl
theorem OpcodeRoundTrip.ldDL : OpcodeRoundTrip.Statement .ldDL := rfl
theorem OpcodeRoundTrip.ldDAtHl : OpcodeRoundTrip.Statement .ldDAtHl := rfl
theorem OpcodeRoundTrip.ldDA : OpcodeRoundTrip.Statement .ldDA := rfl
theorem OpcodeRoundTrip.ldEB : OpcodeRoundTrip.Statement .ldEB := rfl
theorem OpcodeRoundTrip.ldEC : OpcodeRoundTrip.Statement .ldEC := rfl
theorem OpcodeRoundTrip.ldED : OpcodeRoundTrip.Statement .ldED := rfl
theorem OpcodeRoundTrip.ldEE : OpcodeRoundTrip.Statement .ldEE := rfl
theorem OpcodeRoundTrip.ldEH : OpcodeRoundTrip.Statement .ldEH := rfl
theorem OpcodeRoundTrip.ldEL : OpcodeRoundTrip.Statement .ldEL := rfl
theorem OpcodeRoundTrip.ldEAtHl : OpcodeRoundTrip.Statement .ldEAtHl := rfl
theorem OpcodeRoundTrip.ldEA : OpcodeRoundTrip.Statement .ldEA := rfl
theorem OpcodeRoundTrip.ldHB : OpcodeRoundTrip.Statement .ldHB := rfl
theorem OpcodeRoundTrip.ldHC : OpcodeRoundTrip.Statement .ldHC := rfl
theorem OpcodeRoundTrip.ldHD : OpcodeRoundTrip.Statement .ldHD := rfl
theorem OpcodeRoundTrip.ldHE : OpcodeRoundTrip.Statement .ldHE := rfl
theorem OpcodeRoundTrip.ldHH : OpcodeRoundTrip.Statement .ldHH := rfl
theorem OpcodeRoundTrip.ldHL : OpcodeRoundTrip.Statement .ldHL := rfl
theorem OpcodeRoundTrip.ldHAtHl : OpcodeRoundTrip.Statement .ldHAtHl := rfl
theorem OpcodeRoundTrip.ldHA : OpcodeRoundTrip.Statement .ldHA := rfl
theorem OpcodeRoundTrip.ldLB : OpcodeRoundTrip.Statement .ldLB := rfl
theorem OpcodeRoundTrip.ldLC : OpcodeRoundTrip.Statement .ldLC := rfl
theorem OpcodeRoundTrip.ldLD : OpcodeRoundTrip.Statement .ldLD := rfl
theorem OpcodeRoundTrip.ldLE : OpcodeRoundTrip.Statement .ldLE := rfl
theorem OpcodeRoundTrip.ldLH : OpcodeRoundTrip.Statement .ldLH := rfl
theorem OpcodeRoundTrip.ldLL : OpcodeRoundTrip.Statement .ldLL := rfl
theorem OpcodeRoundTrip.ldLAtHl : OpcodeRoundTrip.Statement .ldLAtHl := rfl
theorem OpcodeRoundTrip.ldLA : OpcodeRoundTrip.Statement .ldLA := rfl
theorem OpcodeRoundTrip.ldAtHlB : OpcodeRoundTrip.Statement .ldAtHlB := rfl
theorem OpcodeRoundTrip.ldAtHlC : OpcodeRoundTrip.Statement .ldAtHlC := rfl
theorem OpcodeRoundTrip.ldAtHlD : OpcodeRoundTrip.Statement .ldAtHlD := rfl
theorem OpcodeRoundTrip.ldAtHlE : OpcodeRoundTrip.Statement .ldAtHlE := rfl
theorem OpcodeRoundTrip.ldAtHlH : OpcodeRoundTrip.Statement .ldAtHlH := rfl
theorem OpcodeRoundTrip.ldAtHlL : OpcodeRoundTrip.Statement .ldAtHlL := rfl
theorem OpcodeRoundTrip.halt : OpcodeRoundTrip.Statement .halt := rfl
theorem OpcodeRoundTrip.ldAtHlA : OpcodeRoundTrip.Statement .ldAtHlA := rfl
theorem OpcodeRoundTrip.ldAB : OpcodeRoundTrip.Statement .ldAB := rfl
theorem OpcodeRoundTrip.ldAC : OpcodeRoundTrip.Statement .ldAC := rfl
theorem OpcodeRoundTrip.ldAD : OpcodeRoundTrip.Statement .ldAD := rfl
theorem OpcodeRoundTrip.ldAE : OpcodeRoundTrip.Statement .ldAE := rfl
theorem OpcodeRoundTrip.ldAH : OpcodeRoundTrip.Statement .ldAH := rfl
theorem OpcodeRoundTrip.ldAL : OpcodeRoundTrip.Statement .ldAL := rfl
theorem OpcodeRoundTrip.ldAAtHl : OpcodeRoundTrip.Statement .ldAAtHl := rfl
theorem OpcodeRoundTrip.ldAA : OpcodeRoundTrip.Statement .ldAA := rfl
theorem OpcodeRoundTrip.addAB : OpcodeRoundTrip.Statement .addAB := rfl
theorem OpcodeRoundTrip.addAC : OpcodeRoundTrip.Statement .addAC := rfl
theorem OpcodeRoundTrip.addAD : OpcodeRoundTrip.Statement .addAD := rfl
theorem OpcodeRoundTrip.addAE : OpcodeRoundTrip.Statement .addAE := rfl
theorem OpcodeRoundTrip.addAH : OpcodeRoundTrip.Statement .addAH := rfl
theorem OpcodeRoundTrip.addAL : OpcodeRoundTrip.Statement .addAL := rfl
theorem OpcodeRoundTrip.addAAtHl : OpcodeRoundTrip.Statement .addAAtHl := rfl
theorem OpcodeRoundTrip.addAA : OpcodeRoundTrip.Statement .addAA := rfl
theorem OpcodeRoundTrip.adcAB : OpcodeRoundTrip.Statement .adcAB := rfl
theorem OpcodeRoundTrip.adcAC : OpcodeRoundTrip.Statement .adcAC := rfl
theorem OpcodeRoundTrip.adcAD : OpcodeRoundTrip.Statement .adcAD := rfl
theorem OpcodeRoundTrip.adcAE : OpcodeRoundTrip.Statement .adcAE := rfl
theorem OpcodeRoundTrip.adcAH : OpcodeRoundTrip.Statement .adcAH := rfl
theorem OpcodeRoundTrip.adcAL : OpcodeRoundTrip.Statement .adcAL := rfl
theorem OpcodeRoundTrip.adcAAtHl : OpcodeRoundTrip.Statement .adcAAtHl := rfl
theorem OpcodeRoundTrip.adcAA : OpcodeRoundTrip.Statement .adcAA := rfl
theorem OpcodeRoundTrip.subB : OpcodeRoundTrip.Statement .subB := rfl
theorem OpcodeRoundTrip.subC : OpcodeRoundTrip.Statement .subC := rfl
theorem OpcodeRoundTrip.subD : OpcodeRoundTrip.Statement .subD := rfl
theorem OpcodeRoundTrip.subE : OpcodeRoundTrip.Statement .subE := rfl
theorem OpcodeRoundTrip.subH : OpcodeRoundTrip.Statement .subH := rfl
theorem OpcodeRoundTrip.subL : OpcodeRoundTrip.Statement .subL := rfl
theorem OpcodeRoundTrip.subAtHl : OpcodeRoundTrip.Statement .subAtHl := rfl
theorem OpcodeRoundTrip.subA : OpcodeRoundTrip.Statement .subA := rfl
theorem OpcodeRoundTrip.sbcAB : OpcodeRoundTrip.Statement .sbcAB := rfl
theorem OpcodeRoundTrip.sbcAC : OpcodeRoundTrip.Statement .sbcAC := rfl
theorem OpcodeRoundTrip.sbcAD : OpcodeRoundTrip.Statement .sbcAD := rfl
theorem OpcodeRoundTrip.sbcAE : OpcodeRoundTrip.Statement .sbcAE := rfl
theorem OpcodeRoundTrip.sbcAH : OpcodeRoundTrip.Statement .sbcAH := rfl
theorem OpcodeRoundTrip.sbcAL : OpcodeRoundTrip.Statement .sbcAL := rfl
theorem OpcodeRoundTrip.sbcAAtHl : OpcodeRoundTrip.Statement .sbcAAtHl := rfl
theorem OpcodeRoundTrip.sbcAA : OpcodeRoundTrip.Statement .sbcAA := rfl
theorem OpcodeRoundTrip.andB : OpcodeRoundTrip.Statement .andB := rfl
theorem OpcodeRoundTrip.andC : OpcodeRoundTrip.Statement .andC := rfl
theorem OpcodeRoundTrip.andD : OpcodeRoundTrip.Statement .andD := rfl
theorem OpcodeRoundTrip.andE : OpcodeRoundTrip.Statement .andE := rfl
theorem OpcodeRoundTrip.andH : OpcodeRoundTrip.Statement .andH := rfl
theorem OpcodeRoundTrip.andL : OpcodeRoundTrip.Statement .andL := rfl
theorem OpcodeRoundTrip.andAtHl : OpcodeRoundTrip.Statement .andAtHl := rfl
theorem OpcodeRoundTrip.andA : OpcodeRoundTrip.Statement .andA := rfl
theorem OpcodeRoundTrip.xorB : OpcodeRoundTrip.Statement .xorB := rfl
theorem OpcodeRoundTrip.xorC : OpcodeRoundTrip.Statement .xorC := rfl
theorem OpcodeRoundTrip.xorD : OpcodeRoundTrip.Statement .xorD := rfl
theorem OpcodeRoundTrip.xorE : OpcodeRoundTrip.Statement .xorE := rfl
theorem OpcodeRoundTrip.xorH : OpcodeRoundTrip.Statement .xorH := rfl
theorem OpcodeRoundTrip.xorL : OpcodeRoundTrip.Statement .xorL := rfl
theorem OpcodeRoundTrip.xorAtHl : OpcodeRoundTrip.Statement .xorAtHl := rfl
theorem OpcodeRoundTrip.xorA : OpcodeRoundTrip.Statement .xorA := rfl
theorem OpcodeRoundTrip.orB : OpcodeRoundTrip.Statement .orB := rfl
theorem OpcodeRoundTrip.orC : OpcodeRoundTrip.Statement .orC := rfl
theorem OpcodeRoundTrip.orD : OpcodeRoundTrip.Statement .orD := rfl
theorem OpcodeRoundTrip.orE : OpcodeRoundTrip.Statement .orE := rfl
theorem OpcodeRoundTrip.orH : OpcodeRoundTrip.Statement .orH := rfl
theorem OpcodeRoundTrip.orL : OpcodeRoundTrip.Statement .orL := rfl
theorem OpcodeRoundTrip.orAtHl : OpcodeRoundTrip.Statement .orAtHl := rfl
theorem OpcodeRoundTrip.orA : OpcodeRoundTrip.Statement .orA := rfl
theorem OpcodeRoundTrip.cpB : OpcodeRoundTrip.Statement .cpB := rfl
theorem OpcodeRoundTrip.cpC : OpcodeRoundTrip.Statement .cpC := rfl
theorem OpcodeRoundTrip.cpD : OpcodeRoundTrip.Statement .cpD := rfl
theorem OpcodeRoundTrip.cpE : OpcodeRoundTrip.Statement .cpE := rfl
theorem OpcodeRoundTrip.cpH : OpcodeRoundTrip.Statement .cpH := rfl
theorem OpcodeRoundTrip.cpL : OpcodeRoundTrip.Statement .cpL := rfl
theorem OpcodeRoundTrip.cpAtHl : OpcodeRoundTrip.Statement .cpAtHl := rfl
theorem OpcodeRoundTrip.cpA : OpcodeRoundTrip.Statement .cpA := rfl
theorem OpcodeRoundTrip.retNz : OpcodeRoundTrip.Statement .retNz := rfl
theorem OpcodeRoundTrip.popBc : OpcodeRoundTrip.Statement .popBc := rfl
theorem OpcodeRoundTrip.jpNzN16 : OpcodeRoundTrip.Statement .jpNzN16 := rfl
theorem OpcodeRoundTrip.jpN16 : OpcodeRoundTrip.Statement .jpN16 := rfl
theorem OpcodeRoundTrip.callNzN16 : OpcodeRoundTrip.Statement .callNzN16 := rfl
theorem OpcodeRoundTrip.pushBc : OpcodeRoundTrip.Statement .pushBc := rfl
theorem OpcodeRoundTrip.addAN8 : OpcodeRoundTrip.Statement .addAN8 := rfl
theorem OpcodeRoundTrip.rst00 : OpcodeRoundTrip.Statement .rst00 := rfl
theorem OpcodeRoundTrip.retZ : OpcodeRoundTrip.Statement .retZ := rfl
theorem OpcodeRoundTrip.ret : OpcodeRoundTrip.Statement .ret := rfl
theorem OpcodeRoundTrip.jpZN16 : OpcodeRoundTrip.Statement .jpZN16 := rfl
theorem OpcodeRoundTrip.prefixCB : OpcodeRoundTrip.Statement .prefixCB := rfl
theorem OpcodeRoundTrip.callZN16 : OpcodeRoundTrip.Statement .callZN16 := rfl
theorem OpcodeRoundTrip.callN16 : OpcodeRoundTrip.Statement .callN16 := rfl
theorem OpcodeRoundTrip.adcAN8 : OpcodeRoundTrip.Statement .adcAN8 := rfl
theorem OpcodeRoundTrip.rst08 : OpcodeRoundTrip.Statement .rst08 := rfl
theorem OpcodeRoundTrip.retNc : OpcodeRoundTrip.Statement .retNc := rfl
theorem OpcodeRoundTrip.popDe : OpcodeRoundTrip.Statement .popDe := rfl
theorem OpcodeRoundTrip.jpNcN16 : OpcodeRoundTrip.Statement .jpNcN16 := rfl
theorem OpcodeRoundTrip.undefD3 : OpcodeRoundTrip.Statement .undefD3 := rfl
theorem OpcodeRoundTrip.callNcN16 : OpcodeRoundTrip.Statement .callNcN16 := rfl
theorem OpcodeRoundTrip.pushDe : OpcodeRoundTrip.Statement .pushDe := rfl
theorem OpcodeRoundTrip.subN8 : OpcodeRoundTrip.Statement .subN8 := rfl
theorem OpcodeRoundTrip.rst10 : OpcodeRoundTrip.Statement .rst10 := rfl
theorem OpcodeRoundTrip.retC : OpcodeRoundTrip.Statement .retC := rfl
theorem OpcodeRoundTrip.reti : OpcodeRoundTrip.Statement .reti := rfl
theorem OpcodeRoundTrip.jpCN16 : OpcodeRoundTrip.Statement .jpCN16 := rfl
theorem OpcodeRoundTrip.undefDB : OpcodeRoundTrip.Statement .undefDB := rfl
theorem OpcodeRoundTrip.callCN16 : OpcodeRoundTrip.Statement .callCN16 := rfl
theorem OpcodeRoundTrip.undefDD : OpcodeRoundTrip.Statement .undefDD := rfl
theorem OpcodeRoundTrip.sbcAN8 : OpcodeRoundTrip.Statement .sbcAN8 := rfl
theorem OpcodeRoundTrip.rst18 : OpcodeRoundTrip.Statement .rst18 := rfl
theorem OpcodeRoundTrip.ldhAtN8A : OpcodeRoundTrip.Statement .ldhAtN8A := rfl
theorem OpcodeRoundTrip.popHl : OpcodeRoundTrip.Statement .popHl := rfl
theorem OpcodeRoundTrip.ldAtCA : OpcodeRoundTrip.Statement .ldAtCA := rfl
theorem OpcodeRoundTrip.undefE3 : OpcodeRoundTrip.Statement .undefE3 := rfl
theorem OpcodeRoundTrip.undefE4 : OpcodeRoundTrip.Statement .undefE4 := rfl
theorem OpcodeRoundTrip.pushHl : OpcodeRoundTrip.Statement .pushHl := rfl
theorem OpcodeRoundTrip.andN8 : OpcodeRoundTrip.Statement .andN8 := rfl
theorem OpcodeRoundTrip.rst20 : OpcodeRoundTrip.Statement .rst20 := rfl
theorem OpcodeRoundTrip.addSpE8 : OpcodeRoundTrip.Statement .addSpE8 := rfl
theorem OpcodeRoundTrip.jpHl : OpcodeRoundTrip.Statement .jpHl := rfl
theorem OpcodeRoundTrip.ldAtN16A : OpcodeRoundTrip.Statement .ldAtN16A := rfl
theorem OpcodeRoundTrip.undefEB : OpcodeRoundTrip.Statement .undefEB := rfl
theorem OpcodeRoundTrip.undefEC : OpcodeRoundTrip.Statement .undefEC := rfl
theorem OpcodeRoundTrip.undefED : OpcodeRoundTrip.Statement .undefED := rfl
theorem OpcodeRoundTrip.xorN8 : OpcodeRoundTrip.Statement .xorN8 := rfl
theorem OpcodeRoundTrip.rst28 : OpcodeRoundTrip.Statement .rst28 := rfl
theorem OpcodeRoundTrip.ldhAAtN8 : OpcodeRoundTrip.Statement .ldhAAtN8 := rfl
theorem OpcodeRoundTrip.popAf : OpcodeRoundTrip.Statement .popAf := rfl
theorem OpcodeRoundTrip.ldAAtC : OpcodeRoundTrip.Statement .ldAAtC := rfl
theorem OpcodeRoundTrip.di : OpcodeRoundTrip.Statement .di := rfl
theorem OpcodeRoundTrip.undefF4 : OpcodeRoundTrip.Statement .undefF4 := rfl
theorem OpcodeRoundTrip.pushAf : OpcodeRoundTrip.Statement .pushAf := rfl
theorem OpcodeRoundTrip.orN8 : OpcodeRoundTrip.Statement .orN8 := rfl
theorem OpcodeRoundTrip.rst30 : OpcodeRoundTrip.Statement .rst30 := rfl
theorem OpcodeRoundTrip.ldHlSpE8 : OpcodeRoundTrip.Statement .ldHlSpE8 := rfl
theorem OpcodeRoundTrip.ldSpHl : OpcodeRoundTrip.Statement .ldSpHl := rfl
theorem OpcodeRoundTrip.ldAAtN16 : OpcodeRoundTrip.Statement .ldAAtN16 := rfl
theorem OpcodeRoundTrip.ei : OpcodeRoundTrip.Statement .ei := rfl
theorem OpcodeRoundTrip.undefFC : OpcodeRoundTrip.Statement .undefFC := rfl
theorem OpcodeRoundTrip.undefFD : OpcodeRoundTrip.Statement .undefFD := rfl
theorem OpcodeRoundTrip.cpN8 : OpcodeRoundTrip.Statement .cpN8 := rfl
theorem OpcodeRoundTrip.rst38 : OpcodeRoundTrip.Statement .rst38 := rfl
theorem OpcodeRoundTrip.rlcB : OpcodeRoundTrip.Statement .rlcB := rfl
theorem OpcodeRoundTrip.rlcC : OpcodeRoundTrip.Statement .rlcC := rfl
theorem OpcodeRoundTrip.rlcD : OpcodeRoundTrip.Statement .rlcD := rfl
theorem OpcodeRoundTrip.rlcE : OpcodeRoundTrip.Statement .rlcE := rfl
theorem OpcodeRoundTrip.rlcH : OpcodeRoundTrip.Statement .rlcH := rfl
theorem OpcodeRoundTrip.rlcL : OpcodeRoundTrip.Statement .rlcL := rfl
theorem OpcodeRoundTrip.rlcAtHl : OpcodeRoundTrip.Statement .rlcAtHl := rfl
theorem OpcodeRoundTrip.rlcA : OpcodeRoundTrip.Statement .rlcA := rfl
theorem OpcodeRoundTrip.rrcB : OpcodeRoundTrip.Statement .rrcB := rfl
theorem OpcodeRoundTrip.rrcC : OpcodeRoundTrip.Statement .rrcC := rfl
theorem OpcodeRoundTrip.rrcD : OpcodeRoundTrip.Statement .rrcD := rfl
theorem OpcodeRoundTrip.rrcE : OpcodeRoundTrip.Statement .rrcE := rfl
theorem OpcodeRoundTrip.rrcH : OpcodeRoundTrip.Statement .rrcH := rfl
theorem OpcodeRoundTrip.rrcL : OpcodeRoundTrip.Statement .rrcL := rfl
theorem OpcodeRoundTrip.rrcAtHl : OpcodeRoundTrip.Statement .rrcAtHl := rfl
theorem OpcodeRoundTrip.rrcA : OpcodeRoundTrip.Statement .rrcA := rfl
theorem OpcodeRoundTrip.rlB : OpcodeRoundTrip.Statement .rlB := rfl
theorem OpcodeRoundTrip.rlC : OpcodeRoundTrip.Statement .rlC := rfl
theorem OpcodeRoundTrip.rlD : OpcodeRoundTrip.Statement .rlD := rfl
theorem OpcodeRoundTrip.rlE : OpcodeRoundTrip.Statement .rlE := rfl
theorem OpcodeRoundTrip.rlH : OpcodeRoundTrip.Statement .rlH := rfl
theorem OpcodeRoundTrip.rlL : OpcodeRoundTrip.Statement .rlL := rfl
theorem OpcodeRoundTrip.rlAtHl : OpcodeRoundTrip.Statement .rlAtHl := rfl
theorem OpcodeRoundTrip.rlA : OpcodeRoundTrip.Statement .rlA := rfl
theorem OpcodeRoundTrip.rrB : OpcodeRoundTrip.Statement .rrB := rfl
theorem OpcodeRoundTrip.rrC : OpcodeRoundTrip.Statement .rrC := rfl
theorem OpcodeRoundTrip.rrD : OpcodeRoundTrip.Statement .rrD := rfl
theorem OpcodeRoundTrip.rrE : OpcodeRoundTrip.Statement .rrE := rfl
theorem OpcodeRoundTrip.rrH : OpcodeRoundTrip.Statement .rrH := rfl
theorem OpcodeRoundTrip.rrL : OpcodeRoundTrip.Statement .rrL := rfl
theorem OpcodeRoundTrip.rrAtHl : OpcodeRoundTrip.Statement .rrAtHl := rfl
theorem OpcodeRoundTrip.rrA : OpcodeRoundTrip.Statement .rrA := rfl
theorem OpcodeRoundTrip.slaB : OpcodeRoundTrip.Statement .slaB := rfl
theorem OpcodeRoundTrip.slaC : OpcodeRoundTrip.Statement .slaC := rfl
theorem OpcodeRoundTrip.slaD : OpcodeRoundTrip.Statement .slaD := rfl
theorem OpcodeRoundTrip.slaE : OpcodeRoundTrip.Statement .slaE := rfl
theorem OpcodeRoundTrip.slaH : OpcodeRoundTrip.Statement .slaH := rfl
theorem OpcodeRoundTrip.slaL : OpcodeRoundTrip.Statement .slaL := rfl
theorem OpcodeRoundTrip.slaAtHl : OpcodeRoundTrip.Statement .slaAtHl := rfl
theorem OpcodeRoundTrip.slaA : OpcodeRoundTrip.Statement .slaA := rfl
theorem OpcodeRoundTrip.sraB : OpcodeRoundTrip.Statement .sraB := rfl
theorem OpcodeRoundTrip.sraC : OpcodeRoundTrip.Statement .sraC := rfl
theorem OpcodeRoundTrip.sraD : OpcodeRoundTrip.Statement .sraD := rfl
theorem OpcodeRoundTrip.sraE : OpcodeRoundTrip.Statement .sraE := rfl
theorem OpcodeRoundTrip.sraH : OpcodeRoundTrip.Statement .sraH := rfl
theorem OpcodeRoundTrip.sraL : OpcodeRoundTrip.Statement .sraL := rfl
theorem OpcodeRoundTrip.sraAtHl : OpcodeRoundTrip.Statement .sraAtHl := rfl
theorem OpcodeRoundTrip.sraA : OpcodeRoundTrip.Statement .sraA := rfl
theorem OpcodeRoundTrip.swapB : OpcodeRoundTrip.Statement .swapB := rfl
theorem OpcodeRoundTrip.swapC : OpcodeRoundTrip.Statement .swapC := rfl
theorem OpcodeRoundTrip.swapD : OpcodeRoundTrip.Statement .swapD := rfl
theorem OpcodeRoundTrip.swapE : OpcodeRoundTrip.Statement .swapE := rfl
theorem OpcodeRoundTrip.swapH : OpcodeRoundTrip.Statement .swapH := rfl
theorem OpcodeRoundTrip.swapL : OpcodeRoundTrip.Statement .swapL := rfl
theorem OpcodeRoundTrip.swapAtHl : OpcodeRoundTrip.Statement .swapAtHl := rfl
theorem OpcodeRoundTrip.swapA : OpcodeRoundTrip.Statement .swapA := rfl
theorem OpcodeRoundTrip.srlB : OpcodeRoundTrip.Statement .srlB := rfl
theorem OpcodeRoundTrip.srlC : OpcodeRoundTrip.Statement .srlC := rfl
theorem OpcodeRoundTrip.srlD : OpcodeRoundTrip.Statement .srlD := rfl
theorem OpcodeRoundTrip.srlE : OpcodeRoundTrip.Statement .srlE := rfl
theorem OpcodeRoundTrip.srlH : OpcodeRoundTrip.Statement .srlH := rfl
theorem OpcodeRoundTrip.srlL : OpcodeRoundTrip.Statement .srlL := rfl
theorem OpcodeRoundTrip.srlAtHl : OpcodeRoundTrip.Statement .srlAtHl := rfl
theorem OpcodeRoundTrip.srlA : OpcodeRoundTrip.Statement .srlA := rfl
theorem OpcodeRoundTrip.bit0B : OpcodeRoundTrip.Statement .bit0B := rfl
theorem OpcodeRoundTrip.bit0C : OpcodeRoundTrip.Statement .bit0C := rfl
theorem OpcodeRoundTrip.bit0D : OpcodeRoundTrip.Statement .bit0D := rfl
theorem OpcodeRoundTrip.bit0E : OpcodeRoundTrip.Statement .bit0E := rfl
theorem OpcodeRoundTrip.bit0H : OpcodeRoundTrip.Statement .bit0H := rfl
theorem OpcodeRoundTrip.bit0L : OpcodeRoundTrip.Statement .bit0L := rfl
theorem OpcodeRoundTrip.bit0AtHl : OpcodeRoundTrip.Statement .bit0AtHl := rfl
theorem OpcodeRoundTrip.bit0A : OpcodeRoundTrip.Statement .bit0A := rfl
theorem OpcodeRoundTrip.bit1B : OpcodeRoundTrip.Statement .bit1B := rfl
theorem OpcodeRoundTrip.bit1C : OpcodeRoundTrip.Statement .bit1C := rfl
theorem OpcodeRoundTrip.bit1D : OpcodeRoundTrip.Statement .bit1D := rfl
theorem OpcodeRoundTrip.bit1E : OpcodeRoundTrip.Statement .bit1E := rfl
theorem OpcodeRoundTrip.bit1H : OpcodeRoundTrip.Statement .bit1H := rfl
theorem OpcodeRoundTrip.bit1L : OpcodeRoundTrip.Statement .bit1L := rfl
theorem OpcodeRoundTrip.bit1AtHl : OpcodeRoundTrip.Statement .bit1AtHl := rfl
theorem OpcodeRoundTrip.bit1A : OpcodeRoundTrip.Statement .bit1A := rfl
theorem OpcodeRoundTrip.bit2B : OpcodeRoundTrip.Statement .bit2B := rfl
theorem OpcodeRoundTrip.bit2C : OpcodeRoundTrip.Statement .bit2C := rfl
theorem OpcodeRoundTrip.bit2D : OpcodeRoundTrip.Statement .bit2D := rfl
theorem OpcodeRoundTrip.bit2E : OpcodeRoundTrip.Statement .bit2E := rfl
theorem OpcodeRoundTrip.bit2H : OpcodeRoundTrip.Statement .bit2H := rfl
theorem OpcodeRoundTrip.bit2L : OpcodeRoundTrip.Statement .bit2L := rfl
theorem OpcodeRoundTrip.bit2AtHl : OpcodeRoundTrip.Statement .bit2AtHl := rfl
theorem OpcodeRoundTrip.bit2A : OpcodeRoundTrip.Statement .bit2A := rfl
theorem OpcodeRoundTrip.bit3B : OpcodeRoundTrip.Statement .bit3B := rfl
theorem OpcodeRoundTrip.bit3C : OpcodeRoundTrip.Statement .bit3C := rfl
theorem OpcodeRoundTrip.bit3D : OpcodeRoundTrip.Statement .bit3D := rfl
theorem OpcodeRoundTrip.bit3E : OpcodeRoundTrip.Statement .bit3E := rfl
theorem OpcodeRoundTrip.bit3H : OpcodeRoundTrip.Statement .bit3H := rfl
theorem OpcodeRoundTrip.bit3L : OpcodeRoundTrip.Statement .bit3L := rfl
theorem OpcodeRoundTrip.bit3AtHl : OpcodeRoundTrip.Statement .bit3AtHl := rfl
theorem OpcodeRoundTrip.bit3A : OpcodeRoundTrip.Statement .bit3A := rfl
theorem OpcodeRoundTrip.bit4B : OpcodeRoundTrip.Statement .bit4B := rfl
theorem OpcodeRoundTrip.bit4C : OpcodeRoundTrip.Statement .bit4C := rfl
theorem OpcodeRoundTrip.bit4D : OpcodeRoundTrip.Statement .bit4D := rfl
theorem OpcodeRoundTrip.bit4E : OpcodeRoundTrip.Statement .bit4E := rfl
theorem OpcodeRoundTrip.bit4H : OpcodeRoundTrip.Statement .bit4H := rfl
theorem OpcodeRoundTrip.bit4L : OpcodeRoundTrip.Statement .bit4L := rfl
theorem OpcodeRoundTrip.bit4AtHl : OpcodeRoundTrip.Statement .bit4AtHl := rfl
theorem OpcodeRoundTrip.bit4A : OpcodeRoundTrip.Statement .bit4A := rfl
theorem OpcodeRoundTrip.bit5B : OpcodeRoundTrip.Statement .bit5B := rfl
theorem OpcodeRoundTrip.bit5C : OpcodeRoundTrip.Statement .bit5C := rfl
theorem OpcodeRoundTrip.bit5D : OpcodeRoundTrip.Statement .bit5D := rfl
theorem OpcodeRoundTrip.bit5E : OpcodeRoundTrip.Statement .bit5E := rfl
theorem OpcodeRoundTrip.bit5H : OpcodeRoundTrip.Statement .bit5H := rfl
theorem OpcodeRoundTrip.bit5L : OpcodeRoundTrip.Statement .bit5L := rfl
theorem OpcodeRoundTrip.bit5AtHl : OpcodeRoundTrip.Statement .bit5AtHl := rfl
theorem OpcodeRoundTrip.bit5A : OpcodeRoundTrip.Statement .bit5A := rfl
theorem OpcodeRoundTrip.bit6B : OpcodeRoundTrip.Statement .bit6B := rfl
theorem OpcodeRoundTrip.bit6C : OpcodeRoundTrip.Statement .bit6C := rfl
theorem OpcodeRoundTrip.bit6D : OpcodeRoundTrip.Statement .bit6D := rfl
theorem OpcodeRoundTrip.bit6E : OpcodeRoundTrip.Statement .bit6E := rfl
theorem OpcodeRoundTrip.bit6H : OpcodeRoundTrip.Statement .bit6H := rfl
theorem OpcodeRoundTrip.bit6L : OpcodeRoundTrip.Statement .bit6L := rfl
theorem OpcodeRoundTrip.bit6AtHl : OpcodeRoundTrip.Statement .bit6AtHl := rfl
theorem OpcodeRoundTrip.bit6A : OpcodeRoundTrip.Statement .bit6A := rfl
theorem OpcodeRoundTrip.bit7B : OpcodeRoundTrip.Statement .bit7B := rfl
theorem OpcodeRoundTrip.bit7C : OpcodeRoundTrip.Statement .bit7C := rfl
theorem OpcodeRoundTrip.bit7D : OpcodeRoundTrip.Statement .bit7D := rfl
theorem OpcodeRoundTrip.bit7E : OpcodeRoundTrip.Statement .bit7E := rfl
theorem OpcodeRoundTrip.bit7H : OpcodeRoundTrip.Statement .bit7H := rfl
theorem OpcodeRoundTrip.bit7L : OpcodeRoundTrip.Statement .bit7L := rfl
theorem OpcodeRoundTrip.bit7AtHl : OpcodeRoundTrip.Statement .bit7AtHl := rfl
theorem OpcodeRoundTrip.bit7A : OpcodeRoundTrip.Statement .bit7A := rfl
theorem OpcodeRoundTrip.res0B : OpcodeRoundTrip.Statement .res0B := rfl
theorem OpcodeRoundTrip.res0C : OpcodeRoundTrip.Statement .res0C := rfl
theorem OpcodeRoundTrip.res0D : OpcodeRoundTrip.Statement .res0D := rfl
theorem OpcodeRoundTrip.res0E : OpcodeRoundTrip.Statement .res0E := rfl
theorem OpcodeRoundTrip.res0H : OpcodeRoundTrip.Statement .res0H := rfl
theorem OpcodeRoundTrip.res0L : OpcodeRoundTrip.Statement .res0L := rfl
theorem OpcodeRoundTrip.res0AtHl : OpcodeRoundTrip.Statement .res0AtHl := rfl
theorem OpcodeRoundTrip.res0A : OpcodeRoundTrip.Statement .res0A := rfl
theorem OpcodeRoundTrip.res1B : OpcodeRoundTrip.Statement .res1B := rfl
theorem OpcodeRoundTrip.res1C : OpcodeRoundTrip.Statement .res1C := rfl
theorem OpcodeRoundTrip.res1D : OpcodeRoundTrip.Statement .res1D := rfl
theorem OpcodeRoundTrip.res1E : OpcodeRoundTrip.Statement .res1E := rfl
theorem OpcodeRoundTrip.res1H : OpcodeRoundTrip.Statement .res1H := rfl
theorem OpcodeRoundTrip.res1L : OpcodeRoundTrip.Statement .res1L := rfl
theorem OpcodeRoundTrip.res1AtHl : OpcodeRoundTrip.Statement .res1AtHl := rfl
theorem OpcodeRoundTrip.res1A : OpcodeRoundTrip.Statement .res1A := rfl
theorem OpcodeRoundTrip.res2B : OpcodeRoundTrip.Statement .res2B := rfl
theorem OpcodeRoundTrip.res2C : OpcodeRoundTrip.Statement .res2C := rfl
theorem OpcodeRoundTrip.res2D : OpcodeRoundTrip.Statement .res2D := rfl
theorem OpcodeRoundTrip.res2E : OpcodeRoundTrip.Statement .res2E := rfl
theorem OpcodeRoundTrip.res2H : OpcodeRoundTrip.Statement .res2H := rfl
theorem OpcodeRoundTrip.res2L : OpcodeRoundTrip.Statement .res2L := rfl
theorem OpcodeRoundTrip.res2AtHl : OpcodeRoundTrip.Statement .res2AtHl := rfl
theorem OpcodeRoundTrip.res2A : OpcodeRoundTrip.Statement .res2A := rfl
theorem OpcodeRoundTrip.res3B : OpcodeRoundTrip.Statement .res3B := rfl
theorem OpcodeRoundTrip.res3C : OpcodeRoundTrip.Statement .res3C := rfl
theorem OpcodeRoundTrip.res3D : OpcodeRoundTrip.Statement .res3D := rfl
theorem OpcodeRoundTrip.res3E : OpcodeRoundTrip.Statement .res3E := rfl
theorem OpcodeRoundTrip.res3H : OpcodeRoundTrip.Statement .res3H := rfl
theorem OpcodeRoundTrip.res3L : OpcodeRoundTrip.Statement .res3L := rfl
theorem OpcodeRoundTrip.res3AtHl : OpcodeRoundTrip.Statement .res3AtHl := rfl
theorem OpcodeRoundTrip.res3A : OpcodeRoundTrip.Statement .res3A := rfl
theorem OpcodeRoundTrip.res4B : OpcodeRoundTrip.Statement .res4B := rfl
theorem OpcodeRoundTrip.res4C : OpcodeRoundTrip.Statement .res4C := rfl
theorem OpcodeRoundTrip.res4D : OpcodeRoundTrip.Statement .res4D := rfl
theorem OpcodeRoundTrip.res4E : OpcodeRoundTrip.Statement .res4E := rfl
theorem OpcodeRoundTrip.res4H : OpcodeRoundTrip.Statement .res4H := rfl
theorem OpcodeRoundTrip.res4L : OpcodeRoundTrip.Statement .res4L := rfl
theorem OpcodeRoundTrip.res4AtHl : OpcodeRoundTrip.Statement .res4AtHl := rfl
theorem OpcodeRoundTrip.res4A : OpcodeRoundTrip.Statement .res4A := rfl
theorem OpcodeRoundTrip.res5B : OpcodeRoundTrip.Statement .res5B := rfl
theorem OpcodeRoundTrip.res5C : OpcodeRoundTrip.Statement .res5C := rfl
theorem OpcodeRoundTrip.res5D : OpcodeRoundTrip.Statement .res5D := rfl
theorem OpcodeRoundTrip.res5E : OpcodeRoundTrip.Statement .res5E := rfl
theorem OpcodeRoundTrip.res5H : OpcodeRoundTrip.Statement .res5H := rfl
theorem OpcodeRoundTrip.res5L : OpcodeRoundTrip.Statement .res5L := rfl
theorem OpcodeRoundTrip.res5AtHl : OpcodeRoundTrip.Statement .res5AtHl := rfl
theorem OpcodeRoundTrip.res5A : OpcodeRoundTrip.Statement .res5A := rfl
theorem OpcodeRoundTrip.res6B : OpcodeRoundTrip.Statement .res6B := rfl
theorem OpcodeRoundTrip.res6C : OpcodeRoundTrip.Statement .res6C := rfl
theorem OpcodeRoundTrip.res6D : OpcodeRoundTrip.Statement .res6D := rfl
theorem OpcodeRoundTrip.res6E : OpcodeRoundTrip.Statement .res6E := rfl
theorem OpcodeRoundTrip.res6H : OpcodeRoundTrip.Statement .res6H := rfl
theorem OpcodeRoundTrip.res6L : OpcodeRoundTrip.Statement .res6L := rfl
theorem OpcodeRoundTrip.res6AtHl : OpcodeRoundTrip.Statement .res6AtHl := rfl
theorem OpcodeRoundTrip.res6A : OpcodeRoundTrip.Statement .res6A := rfl
theorem OpcodeRoundTrip.res7B : OpcodeRoundTrip.Statement .res7B := rfl
theorem OpcodeRoundTrip.res7C : OpcodeRoundTrip.Statement .res7C := rfl
theorem OpcodeRoundTrip.res7D : OpcodeRoundTrip.Statement .res7D := rfl
theorem OpcodeRoundTrip.res7E : OpcodeRoundTrip.Statement .res7E := rfl
theorem OpcodeRoundTrip.res7H : OpcodeRoundTrip.Statement .res7H := rfl
theorem OpcodeRoundTrip.res7L : OpcodeRoundTrip.Statement .res7L := rfl
theorem OpcodeRoundTrip.res7AtHl : OpcodeRoundTrip.Statement .res7AtHl := rfl
theorem OpcodeRoundTrip.res7A : OpcodeRoundTrip.Statement .res7A := rfl
theorem OpcodeRoundTrip.set0B : OpcodeRoundTrip.Statement .set0B := rfl
theorem OpcodeRoundTrip.set0C : OpcodeRoundTrip.Statement .set0C := rfl
theorem OpcodeRoundTrip.set0D : OpcodeRoundTrip.Statement .set0D := rfl
theorem OpcodeRoundTrip.set0E : OpcodeRoundTrip.Statement .set0E := rfl
theorem OpcodeRoundTrip.set0H : OpcodeRoundTrip.Statement .set0H := rfl
theorem OpcodeRoundTrip.set0L : OpcodeRoundTrip.Statement .set0L := rfl
theorem OpcodeRoundTrip.set0AtHl : OpcodeRoundTrip.Statement .set0AtHl := rfl
theorem OpcodeRoundTrip.set0A : OpcodeRoundTrip.Statement .set0A := rfl
theorem OpcodeRoundTrip.set1B : OpcodeRoundTrip.Statement .set1B := rfl
theorem OpcodeRoundTrip.set1C : OpcodeRoundTrip.Statement .set1C := rfl
theorem OpcodeRoundTrip.set1D : OpcodeRoundTrip.Statement .set1D := rfl
theorem OpcodeRoundTrip.set1E : OpcodeRoundTrip.Statement .set1E := rfl
theorem OpcodeRoundTrip.set1H : OpcodeRoundTrip.Statement .set1H := rfl
theorem OpcodeRoundTrip.set1L : OpcodeRoundTrip.Statement .set1L := rfl
theorem OpcodeRoundTrip.set1AtHl : OpcodeRoundTrip.Statement .set1AtHl := rfl
theorem OpcodeRoundTrip.set1A : OpcodeRoundTrip.Statement .set1A := rfl
theorem OpcodeRoundTrip.set2B : OpcodeRoundTrip.Statement .set2B := rfl
theorem OpcodeRoundTrip.set2C : OpcodeRoundTrip.Statement .set2C := rfl
theorem OpcodeRoundTrip.set2D : OpcodeRoundTrip.Statement .set2D := rfl
theorem OpcodeRoundTrip.set2E : OpcodeRoundTrip.Statement .set2E := rfl
theorem OpcodeRoundTrip.set2H : OpcodeRoundTrip.Statement .set2H := rfl
theorem OpcodeRoundTrip.set2L : OpcodeRoundTrip.Statement .set2L := rfl
theorem OpcodeRoundTrip.set2AtHl : OpcodeRoundTrip.Statement .set2AtHl := rfl
theorem OpcodeRoundTrip.set2A : OpcodeRoundTrip.Statement .set2A := rfl
theorem OpcodeRoundTrip.set3B : OpcodeRoundTrip.Statement .set3B := rfl
theorem OpcodeRoundTrip.set3C : OpcodeRoundTrip.Statement .set3C := rfl
theorem OpcodeRoundTrip.set3D : OpcodeRoundTrip.Statement .set3D := rfl
theorem OpcodeRoundTrip.set3E : OpcodeRoundTrip.Statement .set3E := rfl
theorem OpcodeRoundTrip.set3H : OpcodeRoundTrip.Statement .set3H := rfl
theorem OpcodeRoundTrip.set3L : OpcodeRoundTrip.Statement .set3L := rfl
theorem OpcodeRoundTrip.set3AtHl : OpcodeRoundTrip.Statement .set3AtHl := rfl
theorem OpcodeRoundTrip.set3A : OpcodeRoundTrip.Statement .set3A := rfl
theorem OpcodeRoundTrip.set4B : OpcodeRoundTrip.Statement .set4B := rfl
theorem OpcodeRoundTrip.set4C : OpcodeRoundTrip.Statement .set4C := rfl
theorem OpcodeRoundTrip.set4D : OpcodeRoundTrip.Statement .set4D := rfl
theorem OpcodeRoundTrip.set4E : OpcodeRoundTrip.Statement .set4E := rfl
theorem OpcodeRoundTrip.set4H : OpcodeRoundTrip.Statement .set4H := rfl
theorem OpcodeRoundTrip.set4L : OpcodeRoundTrip.Statement .set4L := rfl
theorem OpcodeRoundTrip.set4AtHl : OpcodeRoundTrip.Statement .set4AtHl := rfl
theorem OpcodeRoundTrip.set4A : OpcodeRoundTrip.Statement .set4A := rfl
theorem OpcodeRoundTrip.set5B : OpcodeRoundTrip.Statement .set5B := rfl
theorem OpcodeRoundTrip.set5C : OpcodeRoundTrip.Statement .set5C := rfl
theorem OpcodeRoundTrip.set5D : OpcodeRoundTrip.Statement .set5D := rfl
theorem OpcodeRoundTrip.set5E : OpcodeRoundTrip.Statement .set5E := rfl
theorem OpcodeRoundTrip.set5H : OpcodeRoundTrip.Statement .set5H := rfl
theorem OpcodeRoundTrip.set5L : OpcodeRoundTrip.Statement .set5L := rfl
theorem OpcodeRoundTrip.set5AtHl : OpcodeRoundTrip.Statement .set5AtHl := rfl
theorem OpcodeRoundTrip.set5A : OpcodeRoundTrip.Statement .set5A := rfl
theorem OpcodeRoundTrip.set6B : OpcodeRoundTrip.Statement .set6B := rfl
theorem OpcodeRoundTrip.set6C : OpcodeRoundTrip.Statement .set6C := rfl
theorem OpcodeRoundTrip.set6D : OpcodeRoundTrip.Statement .set6D := rfl
theorem OpcodeRoundTrip.set6E : OpcodeRoundTrip.Statement .set6E := rfl
theorem OpcodeRoundTrip.set6H : OpcodeRoundTrip.Statement .set6H := rfl
theorem OpcodeRoundTrip.set6L : OpcodeRoundTrip.Statement .set6L := rfl
theorem OpcodeRoundTrip.set6AtHl : OpcodeRoundTrip.Statement .set6AtHl := rfl
theorem OpcodeRoundTrip.set6A : OpcodeRoundTrip.Statement .set6A := rfl
theorem OpcodeRoundTrip.set7B : OpcodeRoundTrip.Statement .set7B := rfl
theorem OpcodeRoundTrip.set7C : OpcodeRoundTrip.Statement .set7C := rfl
theorem OpcodeRoundTrip.set7D : OpcodeRoundTrip.Statement .set7D := rfl
theorem OpcodeRoundTrip.set7E : OpcodeRoundTrip.Statement .set7E := rfl
theorem OpcodeRoundTrip.set7H : OpcodeRoundTrip.Statement .set7H := rfl
theorem OpcodeRoundTrip.set7L : OpcodeRoundTrip.Statement .set7L := rfl
theorem OpcodeRoundTrip.set7AtHl : OpcodeRoundTrip.Statement .set7AtHl := rfl
theorem OpcodeRoundTrip.set7A : OpcodeRoundTrip.Statement .set7A := rfl

/-! ### EntryLength -/

theorem EntryLength.nop : EntryLength.Statement .nop := fun _ => rfl
theorem EntryLength.ldBcN16 : EntryLength.Statement .ldBcN16 := fun _ => rfl
theorem EntryLength.ldAtBcA : EntryLength.Statement .ldAtBcA := fun _ => rfl
theorem EntryLength.incBc : EntryLength.Statement .incBc := fun _ => rfl
theorem EntryLength.incB : EntryLength.Statement .incB := fun _ => rfl
theorem EntryLength.decB : EntryLength.Statement .decB := fun _ => rfl
theorem EntryLength.ldBN8 : EntryLength.Statement .ldBN8 := fun _ => rfl
theorem EntryLength.rlca : EntryLength.Statement .rlca := fun _ => rfl
theorem EntryLength.ldAtN16Sp : EntryLength.Statement .ldAtN16Sp := fun _ => rfl
theorem EntryLength.addHlBc : EntryLength.Statement .addHlBc := fun _ => rfl
theorem EntryLength.ldAAtBc : EntryLength.Statement .ldAAtBc := fun _ => rfl
theorem EntryLength.decBc : EntryLength.Statement .decBc := fun _ => rfl
theorem EntryLength.incC : EntryLength.Statement .incC := fun _ => rfl
theorem EntryLength.decC : EntryLength.Statement .decC := fun _ => rfl
theorem EntryLength.ldCN8 : EntryLength.Statement .ldCN8 := fun _ => rfl
theorem EntryLength.rrca : EntryLength.Statement .rrca := fun _ => rfl
theorem EntryLength.stop : EntryLength.Statement .stop := fun _ => rfl
theorem EntryLength.ldDeN16 : EntryLength.Statement .ldDeN16 := fun _ => rfl
theorem EntryLength.ldAtDeA : EntryLength.Statement .ldAtDeA := fun _ => rfl
theorem EntryLength.incDe : EntryLength.Statement .incDe := fun _ => rfl
theorem EntryLength.incD : EntryLength.Statement .incD := fun _ => rfl
theorem EntryLength.decD : EntryLength.Statement .decD := fun _ => rfl
theorem EntryLength.ldDN8 : EntryLength.Statement .ldDN8 := fun _ => rfl
theorem EntryLength.rla : EntryLength.Statement .rla := fun _ => rfl
theorem EntryLength.jrE8 : EntryLength.Statement .jrE8 := fun _ => rfl
theorem EntryLength.addHlDe : EntryLength.Statement .addHlDe := fun _ => rfl
theorem EntryLength.ldAAtDe : EntryLength.Statement .ldAAtDe := fun _ => rfl
theorem EntryLength.decDe : EntryLength.Statement .decDe := fun _ => rfl
theorem EntryLength.incE : EntryLength.Statement .incE := fun _ => rfl
theorem EntryLength.decE : EntryLength.Statement .decE := fun _ => rfl
theorem EntryLength.ldEN8 : EntryLength.Statement .ldEN8 := fun _ => rfl
theorem EntryLength.rra : EntryLength.Statement .rra := fun _ => rfl
theorem EntryLength.jrNzE8 : EntryLength.Statement .jrNzE8 := fun _ => rfl
theorem EntryLength.ldHlN16 : EntryLength.Statement .ldHlN16 := fun _ => rfl
theorem EntryLength.ldAtHlIncA : EntryLength.Statement .ldAtHlIncA := fun _ => rfl
theorem EntryLength.incHl : EntryLength.Statement .incHl := fun _ => rfl
theorem EntryLength.incH : EntryLength.Statement .incH := fun _ => rfl
theorem EntryLength.decH : EntryLength.Statement .decH := fun _ => rfl
theorem EntryLength.ldHN8 : EntryLength.Statement .ldHN8 := fun _ => rfl
theorem EntryLength.daa : EntryLength.Statement .daa := fun _ => rfl
theorem EntryLength.jrZE8 : EntryLength.Statement .jrZE8 := fun _ => rfl
theorem EntryLength.addHlHl : EntryLength.Statement .addHlHl := fun _ => rfl
theorem EntryLength.ldAAtHlInc : EntryLength.Statement .ldAAtHlInc := fun _ => rfl
theorem EntryLength.decHl : EntryLength.Statement .decHl := fun _ => rfl
theorem EntryLength.incL : EntryLength.Statement .incL := fun _ => rfl
theorem EntryLength.decL : EntryLength.Statement .decL := fun _ => rfl
theorem EntryLength.ldLN8 : EntryLength.Statement .ldLN8 := fun _ => rfl
theorem EntryLength.cpl : EntryLength.Statement .cpl := fun _ => rfl
theorem EntryLength.jrNcE8 : EntryLength.Statement .jrNcE8 := fun _ => rfl
theorem EntryLength.ldSpN16 : EntryLength.Statement .ldSpN16 := fun _ => rfl
theorem EntryLength.ldAtHlDecA : EntryLength.Statement .ldAtHlDecA := fun _ => rfl
theorem EntryLength.incSp : EntryLength.Statement .incSp := fun _ => rfl
theorem EntryLength.incAtHl : EntryLength.Statement .incAtHl := fun _ => rfl
theorem EntryLength.decAtHl : EntryLength.Statement .decAtHl := fun _ => rfl
theorem EntryLength.ldAtHlN8 : EntryLength.Statement .ldAtHlN8 := fun _ => rfl
theorem EntryLength.scf : EntryLength.Statement .scf := fun _ => rfl
theorem EntryLength.jrCE8 : EntryLength.Statement .jrCE8 := fun _ => rfl
theorem EntryLength.addHlSp : EntryLength.Statement .addHlSp := fun _ => rfl
theorem EntryLength.ldAAtHlDec : EntryLength.Statement .ldAAtHlDec := fun _ => rfl
theorem EntryLength.decSp : EntryLength.Statement .decSp := fun _ => rfl
theorem EntryLength.incA : EntryLength.Statement .incA := fun _ => rfl
theorem EntryLength.decA : EntryLength.Statement .decA := fun _ => rfl
theorem EntryLength.ldAN8 : EntryLength.Statement .ldAN8 := fun _ => rfl
theorem EntryLength.ccf : EntryLength.Statement .ccf := fun _ => rfl
theorem EntryLength.ldBB : EntryLength.Statement .ldBB := fun _ => rfl
theorem EntryLength.ldBC : EntryLength.Statement .ldBC := fun _ => rfl
theorem EntryLength.ldBD : EntryLength.Statement .ldBD := fun _ => rfl
theorem EntryLength.ldBE : EntryLength.Statement .ldBE := fun _ => rfl
theorem EntryLength.ldBH : EntryLength.Statement .ldBH := fun _ => rfl
theorem EntryLength.ldBL : EntryLength.Statement .ldBL := fun _ => rfl
theorem EntryLength.ldBAtHl : EntryLength.Statement .ldBAtHl := fun _ => rfl
theorem EntryLength.ldBA : EntryLength.Statement .ldBA := fun _ => rfl
theorem EntryLength.ldCB : EntryLength.Statement .ldCB := fun _ => rfl
theorem EntryLength.ldCC : EntryLength.Statement .ldCC := fun _ => rfl
theorem EntryLength.ldCD : EntryLength.Statement .ldCD := fun _ => rfl
theorem EntryLength.ldCE : EntryLength.Statement .ldCE := fun _ => rfl
theorem EntryLength.ldCH : EntryLength.Statement .ldCH := fun _ => rfl
theorem EntryLength.ldCL : EntryLength.Statement .ldCL := fun _ => rfl
theorem EntryLength.ldCAtHl : EntryLength.Statement .ldCAtHl := fun _ => rfl
theorem EntryLength.ldCA : EntryLength.Statement .ldCA := fun _ => rfl
theorem EntryLength.ldDB : EntryLength.Statement .ldDB := fun _ => rfl
theorem EntryLength.ldDC : EntryLength.Statement .ldDC := fun _ => rfl
theorem EntryLength.ldDD : EntryLength.Statement .ldDD := fun _ => rfl
theorem EntryLength.ldDE : EntryLength.Statement .ldDE := fun _ => rfl
theorem EntryLength.ldDH : EntryLength.Statement .ldDH := fun _ => rfl
theorem EntryLength.ldDL : EntryLength.Statement .ldDL := fun _ => rfl
theorem EntryLength.ldDAtHl : EntryLength.Statement .ldDAtHl := fun _ => rfl
theorem EntryLength.ldDA : EntryLength.Statement .ldDA := fun _ => rfl
theorem EntryLength.ldEB : EntryLength.Statement .ldEB := fun _ => rfl
theorem EntryLength.ldEC : EntryLength.Statement .ldEC := fun _ => rfl
theorem EntryLength.ldED : EntryLength.Statement .ldED := fun _ => rfl
theorem EntryLength.ldEE : EntryLength.Statement .ldEE := fun _ => rfl
theorem EntryLength.ldEH : EntryLength.Statement .ldEH := fun _ => rfl
theorem EntryLength.ldEL : EntryLength.Statement .ldEL := fun _ => rfl
theorem EntryLength.ldEAtHl : EntryLength.Statement .ldEAtHl := fun _ => rfl
theorem EntryLength.ldEA : EntryLength.Statement .ldEA := fun _ => rfl
theorem EntryLength.ldHB : EntryLength.Statement .ldHB := fun _ => rfl
theorem EntryLength.ldHC : EntryLength.Statement .ldHC := fun _ => rfl
theorem EntryLength.ldHD : EntryLength.Statement .ldHD := fun _ => rfl
theorem EntryLength.ldHE : EntryLength.Statement .ldHE := fun _ => rfl
theorem EntryLength.ldHH : EntryLength.Statement .ldHH := fun _ => rfl
theorem EntryLength.ldHL : EntryLength.Statement .ldHL := fun _ => rfl
theorem EntryLength.ldHAtHl : EntryLength.Statement .ldHAtHl := fun _ => rfl
theorem EntryLength.ldHA : EntryLength.Statement .ldHA := fun _ => rfl
theorem EntryLength.ldLB : EntryLength.Statement .ldLB := fun _ => rfl
theorem EntryLength.ldLC : EntryLength.Statement .ldLC := fun _ => rfl
theorem EntryLength.ldLD : EntryLength.Statement .ldLD := fun _ => rfl
theorem EntryLength.ldLE : EntryLength.Statement .ldLE := fun _ => rfl
theorem EntryLength.ldLH : EntryLength.Statement .ldLH := fun _ => rfl
theorem EntryLength.ldLL : EntryLength.Statement .ldLL := fun _ => rfl
theorem EntryLength.ldLAtHl : EntryLength.Statement .ldLAtHl := fun _ => rfl
theorem EntryLength.ldLA : EntryLength.Statement .ldLA := fun _ => rfl
theorem EntryLength.ldAtHlB : EntryLength.Statement .ldAtHlB := fun _ => rfl
theorem EntryLength.ldAtHlC : EntryLength.Statement .ldAtHlC := fun _ => rfl
theorem EntryLength.ldAtHlD : EntryLength.Statement .ldAtHlD := fun _ => rfl
theorem EntryLength.ldAtHlE : EntryLength.Statement .ldAtHlE := fun _ => rfl
theorem EntryLength.ldAtHlH : EntryLength.Statement .ldAtHlH := fun _ => rfl
theorem EntryLength.ldAtHlL : EntryLength.Statement .ldAtHlL := fun _ => rfl
theorem EntryLength.halt : EntryLength.Statement .halt := fun _ => rfl
theorem EntryLength.ldAtHlA : EntryLength.Statement .ldAtHlA := fun _ => rfl
theorem EntryLength.ldAB : EntryLength.Statement .ldAB := fun _ => rfl
theorem EntryLength.ldAC : EntryLength.Statement .ldAC := fun _ => rfl
theorem EntryLength.ldAD : EntryLength.Statement .ldAD := fun _ => rfl
theorem EntryLength.ldAE : EntryLength.Statement .ldAE := fun _ => rfl
theorem EntryLength.ldAH : EntryLength.Statement .ldAH := fun _ => rfl
theorem EntryLength.ldAL : EntryLength.Statement .ldAL := fun _ => rfl
theorem EntryLength.ldAAtHl : EntryLength.Statement .ldAAtHl := fun _ => rfl
theorem EntryLength.ldAA : EntryLength.Statement .ldAA := fun _ => rfl
theorem EntryLength.addAB : EntryLength.Statement .addAB := fun _ => rfl
theorem EntryLength.addAC : EntryLength.Statement .addAC := fun _ => rfl
theorem EntryLength.addAD : EntryLength.Statement .addAD := fun _ => rfl
theorem EntryLength.addAE : EntryLength.Statement .addAE := fun _ => rfl
theorem EntryLength.addAH : EntryLength.Statement .addAH := fun _ => rfl
theorem EntryLength.addAL : EntryLength.Statement .addAL := fun _ => rfl
theorem EntryLength.addAAtHl : EntryLength.Statement .addAAtHl := fun _ => rfl
theorem EntryLength.addAA : EntryLength.Statement .addAA := fun _ => rfl
theorem EntryLength.adcAB : EntryLength.Statement .adcAB := fun _ => rfl
theorem EntryLength.adcAC : EntryLength.Statement .adcAC := fun _ => rfl
theorem EntryLength.adcAD : EntryLength.Statement .adcAD := fun _ => rfl
theorem EntryLength.adcAE : EntryLength.Statement .adcAE := fun _ => rfl
theorem EntryLength.adcAH : EntryLength.Statement .adcAH := fun _ => rfl
theorem EntryLength.adcAL : EntryLength.Statement .adcAL := fun _ => rfl
theorem EntryLength.adcAAtHl : EntryLength.Statement .adcAAtHl := fun _ => rfl
theorem EntryLength.adcAA : EntryLength.Statement .adcAA := fun _ => rfl
theorem EntryLength.subB : EntryLength.Statement .subB := fun _ => rfl
theorem EntryLength.subC : EntryLength.Statement .subC := fun _ => rfl
theorem EntryLength.subD : EntryLength.Statement .subD := fun _ => rfl
theorem EntryLength.subE : EntryLength.Statement .subE := fun _ => rfl
theorem EntryLength.subH : EntryLength.Statement .subH := fun _ => rfl
theorem EntryLength.subL : EntryLength.Statement .subL := fun _ => rfl
theorem EntryLength.subAtHl : EntryLength.Statement .subAtHl := fun _ => rfl
theorem EntryLength.subA : EntryLength.Statement .subA := fun _ => rfl
theorem EntryLength.sbcAB : EntryLength.Statement .sbcAB := fun _ => rfl
theorem EntryLength.sbcAC : EntryLength.Statement .sbcAC := fun _ => rfl
theorem EntryLength.sbcAD : EntryLength.Statement .sbcAD := fun _ => rfl
theorem EntryLength.sbcAE : EntryLength.Statement .sbcAE := fun _ => rfl
theorem EntryLength.sbcAH : EntryLength.Statement .sbcAH := fun _ => rfl
theorem EntryLength.sbcAL : EntryLength.Statement .sbcAL := fun _ => rfl
theorem EntryLength.sbcAAtHl : EntryLength.Statement .sbcAAtHl := fun _ => rfl
theorem EntryLength.sbcAA : EntryLength.Statement .sbcAA := fun _ => rfl
theorem EntryLength.andB : EntryLength.Statement .andB := fun _ => rfl
theorem EntryLength.andC : EntryLength.Statement .andC := fun _ => rfl
theorem EntryLength.andD : EntryLength.Statement .andD := fun _ => rfl
theorem EntryLength.andE : EntryLength.Statement .andE := fun _ => rfl
theorem EntryLength.andH : EntryLength.Statement .andH := fun _ => rfl
theorem EntryLength.andL : EntryLength.Statement .andL := fun _ => rfl
theorem EntryLength.andAtHl : EntryLength.Statement .andAtHl := fun _ => rfl
theorem EntryLength.andA : EntryLength.Statement .andA := fun _ => rfl
theorem EntryLength.xorB : EntryLength.Statement .xorB := fun _ => rfl
theorem EntryLength.xorC : EntryLength.Statement .xorC := fun _ => rfl
theorem EntryLength.xorD : EntryLength.Statement .xorD := fun _ => rfl
theorem EntryLength.xorE : EntryLength.Statement .xorE := fun _ => rfl
theorem EntryLength.xorH : EntryLength.Statement .xorH := fun _ => rfl
theorem EntryLength.xorL : EntryLength.Statement .xorL := fun _ => rfl
theorem EntryLength.xorAtHl : EntryLength.Statement .xorAtHl := fun _ => rfl
theorem EntryLength.xorA : EntryLength.Statement .xorA := fun _ => rfl
theorem EntryLength.orB : EntryLength.Statement .orB := fun _ => rfl
theorem EntryLength.orC : EntryLength.Statement .orC := fun _ => rfl
theorem EntryLength.orD : EntryLength.Statement .orD := fun _ => rfl
theorem EntryLength.orE : EntryLength.Statement .orE := fun _ => rfl
theorem EntryLength.orH : EntryLength.Statement .orH := fun _ => rfl
theorem EntryLength.orL : EntryLength.Statement .orL := fun _ => rfl
theorem EntryLength.orAtHl : EntryLength.Statement .orAtHl := fun _ => rfl
theorem EntryLength.orA : EntryLength.Statement .orA := fun _ => rfl
theorem EntryLength.cpB : EntryLength.Statement .cpB := fun _ => rfl
theorem EntryLength.cpC : EntryLength.Statement .cpC := fun _ => rfl
theorem EntryLength.cpD : EntryLength.Statement .cpD := fun _ => rfl
theorem EntryLength.cpE : EntryLength.Statement .cpE := fun _ => rfl
theorem EntryLength.cpH : EntryLength.Statement .cpH := fun _ => rfl
theorem EntryLength.cpL : EntryLength.Statement .cpL := fun _ => rfl
theorem EntryLength.cpAtHl : EntryLength.Statement .cpAtHl := fun _ => rfl
theorem EntryLength.cpA : EntryLength.Statement .cpA := fun _ => rfl
theorem EntryLength.retNz : EntryLength.Statement .retNz := fun _ => rfl
theorem EntryLength.popBc : EntryLength.Statement .popBc := fun _ => rfl
theorem EntryLength.jpNzN16 : EntryLength.Statement .jpNzN16 := fun _ => rfl
theorem EntryLength.jpN16 : EntryLength.Statement .jpN16 := fun _ => rfl
theorem EntryLength.callNzN16 : EntryLength.Statement .callNzN16 := fun _ => rfl
theorem EntryLength.pushBc : EntryLength.Statement .pushBc := fun _ => rfl
theorem EntryLength.addAN8 : EntryLength.Statement .addAN8 := fun _ => rfl
theorem EntryLength.rst00 : EntryLength.Statement .rst00 := fun _ => rfl
theorem EntryLength.retZ : EntryLength.Statement .retZ := fun _ => rfl
theorem EntryLength.ret : EntryLength.Statement .ret := fun _ => rfl
theorem EntryLength.jpZN16 : EntryLength.Statement .jpZN16 := fun _ => rfl
theorem EntryLength.prefixCB : EntryLength.Statement .prefixCB := fun h => absurd rfl h
theorem EntryLength.callZN16 : EntryLength.Statement .callZN16 := fun _ => rfl
theorem EntryLength.callN16 : EntryLength.Statement .callN16 := fun _ => rfl
theorem EntryLength.adcAN8 : EntryLength.Statement .adcAN8 := fun _ => rfl
theorem EntryLength.rst08 : EntryLength.Statement .rst08 := fun _ => rfl
theorem EntryLength.retNc : EntryLength.Statement .retNc := fun _ => rfl
theorem EntryLength.popDe : EntryLength.Statement .popDe := fun _ => rfl
theorem EntryLength.jpNcN16 : EntryLength.Statement .jpNcN16 := fun _ => rfl
theorem EntryLength.undefD3 : EntryLength.Statement .undefD3 := fun _ => rfl
theorem EntryLength.callNcN16 : EntryLength.Statement .callNcN16 := fun _ => rfl
theorem EntryLength.pushDe : EntryLength.Statement .pushDe := fun _ => rfl
theorem EntryLength.subN8 : EntryLength.Statement .subN8 := fun _ => rfl
theorem EntryLength.rst10 : EntryLength.Statement .rst10 := fun _ => rfl
theorem EntryLength.retC : EntryLength.Statement .retC := fun _ => rfl
theorem EntryLength.reti : EntryLength.Statement .reti := fun _ => rfl
theorem EntryLength.jpCN16 : EntryLength.Statement .jpCN16 := fun _ => rfl
theorem EntryLength.undefDB : EntryLength.Statement .undefDB := fun _ => rfl
theorem EntryLength.callCN16 : EntryLength.Statement .callCN16 := fun _ => rfl
theorem EntryLength.undefDD : EntryLength.Statement .undefDD := fun _ => rfl
theorem EntryLength.sbcAN8 : EntryLength.Statement .sbcAN8 := fun _ => rfl
theorem EntryLength.rst18 : EntryLength.Statement .rst18 := fun _ => rfl
theorem EntryLength.ldhAtN8A : EntryLength.Statement .ldhAtN8A := fun _ => rfl
theorem EntryLength.popHl : EntryLength.Statement .popHl := fun _ => rfl
theorem EntryLength.ldAtCA : EntryLength.Statement .ldAtCA := fun _ => rfl
theorem EntryLength.undefE3 : EntryLength.Statement .undefE3 := fun _ => rfl
theorem EntryLength.undefE4 : EntryLength.Statement .undefE4 := fun _ => rfl
theorem EntryLength.pushHl : EntryLength.Statement .pushHl := fun _ => rfl
theorem EntryLength.andN8 : EntryLength.Statement .andN8 := fun _ => rfl
theorem EntryLength.rst20 : EntryLength.Statement .rst20 := fun _ => rfl
theorem EntryLength.addSpE8 : EntryLength.Statement .addSpE8 := fun _ => rfl
theorem EntryLength.jpHl : EntryLength.Statement .jpHl := fun _ => rfl
theorem EntryLength.ldAtN16A : EntryLength.Statement .ldAtN16A := fun _ => rfl
theorem EntryLength.undefEB : EntryLength.Statement .undefEB := fun _ => rfl
theorem EntryLength.undefEC : EntryLength.Statement .undefEC := fun _ => rfl
theorem EntryLength.undefED : EntryLength.Statement .undefED := fun _ => rfl
theorem EntryLength.xorN8 : EntryLength.Statement .xorN8 := fun _ => rfl
theorem EntryLength.rst28 : EntryLength.Statement .rst28 := fun _ => rfl
theorem EntryLength.ldhAAtN8 : EntryLength.Statement .ldhAAtN8 := fun _ => rfl
theorem EntryLength.popAf : EntryLength.Statement .popAf := fun _ => rfl
theorem EntryLength.ldAAtC : EntryLength.Statement .ldAAtC := fun _ => rfl
theorem EntryLength.di : EntryLength.Statement .di := fun _ => rfl
theorem EntryLength.undefF4 : EntryLength.Statement .undefF4 := fun _ => rfl
theorem EntryLength.pushAf : EntryLength.Statement .pushAf := fun _ => rfl
theorem EntryLength.orN8 : EntryLength.Statement .orN8 := fun _ => rfl
theorem EntryLength.rst30 : EntryLength.Statement .rst30 := fun _ => rfl
theorem EntryLength.ldHlSpE8 : EntryLength.Statement .ldHlSpE8 := fun _ => rfl
theorem EntryLength.ldSpHl : EntryLength.Statement .ldSpHl := fun _ => rfl
theorem EntryLength.ldAAtN16 : EntryLength.Statement .ldAAtN16 := fun _ => rfl
theorem EntryLength.ei : EntryLength.Statement .ei := fun _ => rfl
theorem EntryLength.undefFC : EntryLength.Statement .undefFC := fun _ => rfl
theorem EntryLength.undefFD : EntryLength.Statement .undefFD := fun _ => rfl
theorem EntryLength.cpN8 : EntryLength.Statement .cpN8 := fun _ => rfl
theorem EntryLength.rst38 : EntryLength.Statement .rst38 := fun _ => rfl
theorem EntryLength.rlcB : EntryLength.Statement .rlcB := fun _ => rfl
theorem EntryLength.rlcC : EntryLength.Statement .rlcC := fun _ => rfl
theorem EntryLength.rlcD : EntryLength.Statement .rlcD := fun _ => rfl
theorem EntryLength.rlcE : EntryLength.Statement .rlcE := fun _ => rfl
theorem EntryLength.rlcH : EntryLength.Statement .rlcH := fun _ => rfl
theorem EntryLength.rlcL : EntryLength.Statement .rlcL := fun _ => rfl
theorem EntryLength.rlcAtHl : EntryLength.Statement .rlcAtHl := fun _ => rfl
theorem EntryLength.rlcA : EntryLength.Statement .rlcA := fun _ => rfl
theorem EntryLength.rrcB : EntryLength.Statement .rrcB := fun _ => rfl
theorem EntryLength.rrcC : EntryLength.Statement .rrcC := fun _ => rfl
theorem EntryLength.rrcD : EntryLength.Statement .rrcD := fun _ => rfl
theorem EntryLength.rrcE : EntryLength.Statement .rrcE := fun _ => rfl
theorem EntryLength.rrcH : EntryLength.Statement .rrcH := fun _ => rfl
theorem EntryLength.rrcL : EntryLength.Statement .rrcL := fun _ => rfl
theorem EntryLength.rrcAtHl : EntryLength.Statement .rrcAtHl := fun _ => rfl
theorem EntryLength.rrcA : EntryLength.Statement .rrcA := fun _ => rfl
theorem EntryLength.rlB : EntryLength.Statement .rlB := fun _ => rfl
theorem EntryLength.rlC : EntryLength.Statement .rlC := fun _ => rfl
theorem EntryLength.rlD : EntryLength.Statement .rlD := fun _ => rfl
theorem EntryLength.rlE : EntryLength.Statement .rlE := fun _ => rfl
theorem EntryLength.rlH : EntryLength.Statement .rlH := fun _ => rfl
theorem EntryLength.rlL : EntryLength.Statement .rlL := fun _ => rfl
theorem EntryLength.rlAtHl : EntryLength.Statement .rlAtHl := fun _ => rfl
theorem EntryLength.rlA : EntryLength.Statement .rlA := fun _ => rfl
theorem EntryLength.rrB : EntryLength.Statement .rrB := fun _ => rfl
theorem EntryLength.rrC : EntryLength.Statement .rrC := fun _ => rfl
theorem EntryLength.rrD : EntryLength.Statement .rrD := fun _ => rfl
theorem EntryLength.rrE : EntryLength.Statement .rrE := fun _ => rfl
theorem EntryLength.rrH : EntryLength.Statement .rrH := fun _ => rfl
theorem EntryLength.rrL : EntryLength.Statement .rrL := fun _ => rfl
theorem EntryLength.rrAtHl : EntryLength.Statement .rrAtHl := fun _ => rfl
theorem EntryLength.rrA : EntryLength.Statement .rrA := fun _ => rfl
theorem EntryLength.slaB : EntryLength.Statement .slaB := fun _ => rfl
theorem EntryLength.slaC : EntryLength.Statement .slaC := fun _ => rfl
theorem EntryLength.slaD : EntryLength.Statement .slaD := fun _ => rfl
theorem EntryLength.slaE : EntryLength.Statement .slaE := fun _ => rfl
theorem EntryLength.slaH : EntryLength.Statement .slaH := fun _ => rfl
theorem EntryLength.slaL : EntryLength.Statement .slaL := fun _ => rfl
theorem EntryLength.slaAtHl : EntryLength.Statement .slaAtHl := fun _ => rfl
theorem EntryLength.slaA : EntryLength.Statement .slaA := fun _ => rfl
theorem EntryLength.sraB : EntryLength.Statement .sraB := fun _ => rfl
theorem EntryLength.sraC : EntryLength.Statement .sraC := fun _ => rfl
theorem EntryLength.sraD : EntryLength.Statement .sraD := fun _ => rfl
theorem EntryLength.sraE : EntryLength.Statement .sraE := fun _ => rfl
theorem EntryLength.sraH : EntryLength.Statement .sraH := fun _ => rfl
theorem EntryLength.sraL : EntryLength.Statement .sraL := fun _ => rfl
theorem EntryLength.sraAtHl : EntryLength.Statement .sraAtHl := fun _ => rfl
theorem EntryLength.sraA : EntryLength.Statement .sraA := fun _ => rfl
theorem EntryLength.swapB : EntryLength.Statement .swapB := fun _ => rfl
theorem EntryLength.swapC : EntryLength.Statement .swapC := fun _ => rfl
theorem EntryLength.swapD : EntryLength.Statement .swapD := fun _ => rfl
theorem EntryLength.swapE : EntryLength.Statement .swapE := fun _ => rfl
theorem EntryLength.swapH : EntryLength.Statement .swapH := fun _ => rfl
theorem EntryLength.swapL : EntryLength.Statement .swapL := fun _ => rfl
theorem EntryLength.swapAtHl : EntryLength.Statement .swapAtHl := fun _ => rfl
theorem EntryLength.swapA : EntryLength.Statement .swapA := fun _ => rfl
theorem EntryLength.srlB : EntryLength.Statement .srlB := fun _ => rfl
theorem EntryLength.srlC : EntryLength.Statement .srlC := fun _ => rfl
theorem EntryLength.srlD : EntryLength.Statement .srlD := fun _ => rfl
theorem EntryLength.srlE : EntryLength.Statement .srlE := fun _ => rfl
theorem EntryLength.srlH : EntryLength.Statement .srlH := fun _ => rfl
theorem EntryLength.srlL : EntryLength.Statement .srlL := fun _ => rfl
theorem EntryLength.srlAtHl : EntryLength.Statement .srlAtHl := fun _ => rfl
theorem EntryLength.srlA : EntryLength.Statement .srlA := fun _ => rfl
theorem EntryLength.bit0B : EntryLength.Statement .bit0B := fun _ => rfl
theorem EntryLength.bit0C : EntryLength.Statement .bit0C := fun _ => rfl
theorem EntryLength.bit0D : EntryLength.Statement .bit0D := fun _ => rfl
theorem EntryLength.bit0E : EntryLength.Statement .bit0E := fun _ => rfl
theorem EntryLength.bit0H : EntryLength.Statement .bit0H := fun _ => rfl
theorem EntryLength.bit0L : EntryLength.Statement .bit0L := fun _ => rfl
theorem EntryLength.bit0AtHl : EntryLength.Statement .bit0AtHl := fun _ => rfl
theorem EntryLength.bit0A : EntryLength.Statement .bit0A := fun _ => rfl
theorem EntryLength.bit1B : EntryLength.Statement .bit1B := fun _ => rfl
theorem EntryLength.bit1C : EntryLength.Statement .bit1C := fun _ => rfl
theorem EntryLength.bit1D : EntryLength.Statement .bit1D := fun _ => rfl
theorem EntryLength.bit1E : EntryLength.Statement .bit1E := fun _ => rfl
theorem EntryLength.bit1H : EntryLength.Statement .bit1H := fun _ => rfl
theorem EntryLength.bit1L : EntryLength.Statement .bit1L := fun _ => rfl
theorem EntryLength.bit1AtHl : EntryLength.Statement .bit1AtHl := fun _ => rfl
theorem EntryLength.bit1A : EntryLength.Statement .bit1A := fun _ => rfl
theorem EntryLength.bit2B : EntryLength.Statement .bit2B := fun _ => rfl
theorem EntryLength.bit2C : EntryLength.Statement .bit2C := fun _ => rfl
theorem EntryLength.bit2D : EntryLength.Statement .bit2D := fun _ => rfl
theorem EntryLength.bit2E : EntryLength.Statement .bit2E := fun _ => rfl
theorem EntryLength.bit2H : EntryLength.Statement .bit2H := fun _ => rfl
theorem EntryLength.bit2L : EntryLength.Statement .bit2L := fun _ => rfl
theorem EntryLength.bit2AtHl : EntryLength.Statement .bit2AtHl := fun _ => rfl
theorem EntryLength.bit2A : EntryLength.Statement .bit2A := fun _ => rfl
theorem EntryLength.bit3B : EntryLength.Statement .bit3B := fun _ => rfl
theorem EntryLength.bit3C : EntryLength.Statement .bit3C := fun _ => rfl
theorem EntryLength.bit3D : EntryLength.Statement .bit3D := fun _ => rfl
theorem EntryLength.bit3E : EntryLength.Statement .bit3E := fun _ => rfl
theorem EntryLength.bit3H : EntryLength.Statement .bit3H := fun _ => rfl
theorem EntryLength.bit3L : EntryLength.Statement .bit3L := fun _ => rfl
theorem EntryLength.bit3AtHl : EntryLength.Statement .bit3AtHl := fun _ => rfl
theorem EntryLength.bit3A : EntryLength.Statement .bit3A := fun _ => rfl
theorem EntryLength.bit4B : EntryLength.Statement .bit4B := fun _ => rfl
theorem EntryLength.bit4C : EntryLength.Statement .bit4C := fun _ => rfl
theorem EntryLength.bit4D : EntryLength.Statement .bit4D := fun _ => rfl
theorem EntryLength.bit4E : EntryLength.Statement .bit4E := fun _ => rfl
theorem EntryLength.bit4H : EntryLength.Statement .bit4H := fun _ => rfl
theorem EntryLength.bit4L : EntryLength.Statement .bit4L := fun _ => rfl
theorem EntryLength.bit4AtHl : EntryLength.Statement .bit4AtHl := fun _ => rfl
theorem EntryLength.bit4A : EntryLength.Statement .bit4A := fun _ => rfl
theorem EntryLength.bit5B : EntryLength.Statement .bit5B := fun _ => rfl
theorem EntryLength.bit5C : EntryLength.Statement .bit5C := fun _ => rfl
theorem EntryLength.bit5D : EntryLength.Statement .bit5D := fun _ => rfl
theorem EntryLength.bit5E : EntryLength.Statement .bit5E := fun _ => rfl
theorem EntryLength.bit5H : EntryLength.Statement .bit5H := fun _ => rfl
theorem EntryLength.bit5L : EntryLength.Statement .bit5L := fun _ => rfl
theorem EntryLength.bit5AtHl : EntryLength.Statement .bit5AtHl := fun _ => rfl
theorem EntryLength.bit5A : EntryLength.Statement .bit5A := fun _ => rfl
theorem EntryLength.bit6B : EntryLength.Statement .bit6B := fun _ => rfl
theorem EntryLength.bit6C : EntryLength.Statement .bit6C := fun _ => rfl
theorem EntryLength.bit6D : EntryLength.Statement .bit6D := fun _ => rfl
theorem EntryLength.bit6E : EntryLength.Statement .bit6E := fun _ => rfl
theorem EntryLength.bit6H : EntryLength.Statement .bit6H := fun _ => rfl
theorem EntryLength.bit6L : EntryLength.Statement .bit6L := fun _ => rfl
theorem EntryLength.bit6AtHl : EntryLength.Statement .bit6AtHl := fun _ => rfl
theorem EntryLength.bit6A : EntryLength.Statement .bit6A := fun _ => rfl
theorem EntryLength.bit7B : EntryLength.Statement .bit7B := fun _ => rfl
theorem EntryLength.bit7C : EntryLength.Statement .bit7C := fun _ => rfl
theorem EntryLength.bit7D : EntryLength.Statement .bit7D := fun _ => rfl
theorem EntryLength.bit7E : EntryLength.Statement .bit7E := fun _ => rfl
theorem EntryLength.bit7H : EntryLength.Statement .bit7H := fun _ => rfl
theorem EntryLength.bit7L : EntryLength.Statement .bit7L := fun _ => rfl
theorem EntryLength.bit7AtHl : EntryLength.Statement .bit7AtHl := fun _ => rfl
theorem EntryLength.bit7A : EntryLength.Statement .bit7A := fun _ => rfl
theorem EntryLength.res0B : EntryLength.Statement .res0B := fun _ => rfl
theorem EntryLength.res0C : EntryLength.Statement .res0C := fun _ => rfl
theorem EntryLength.res0D : EntryLength.Statement .res0D := fun _ => rfl
theorem EntryLength.res0E : EntryLength.Statement .res0E := fun _ => rfl
theorem EntryLength.res0H : EntryLength.Statement .res0H := fun _ => rfl
theorem EntryLength.res0L : EntryLength.Statement .res0L := fun _ => rfl
theorem EntryLength.res0AtHl : EntryLength.Statement .res0AtHl := fun _ => rfl
theorem EntryLength.res0A : EntryLength.Statement .res0A := fun _ => rfl
theorem EntryLength.res1B : EntryLength.Statement .res1B := fun _ => rfl
theorem EntryLength.res1C : EntryLength.Statement .res1C := fun _ => rfl
theorem EntryLength.res1D : EntryLength.Statement .res1D := fun _ => rfl
theorem EntryLength.res1E : EntryLength.Statement .res1E := fun _ => rfl
theorem EntryLength.res1H : EntryLength.Statement .res1H := fun _ => rfl
theorem EntryLength.res1L : EntryLength.Statement .res1L := fun _ => rfl
theorem EntryLength.res1AtHl : EntryLength.Statement .res1AtHl := fun _ => rfl
theorem EntryLength.res1A : EntryLength.Statement .res1A := fun _ => rfl
theorem EntryLength.res2B : EntryLength.Statement .res2B := fun _ => rfl
theorem EntryLength.res2C : EntryLength.Statement .res2C := fun _ => rfl
theorem EntryLength.res2D : EntryLength.Statement .res2D := fun _ => rfl
theorem EntryLength.res2E : EntryLength.Statement .res2E := fun _ => rfl
theorem EntryLength.res2H : EntryLength.Statement .res2H := fun _ => rfl
theorem EntryLength.res2L : EntryLength.Statement .res2L := fun _ => rfl
theorem EntryLength.res2AtHl : EntryLength.Statement .res2AtHl := fun _ => rfl
theorem EntryLength.res2A : EntryLength.Statement .res2A := fun _ => rfl
theorem EntryLength.res3B : EntryLength.Statement .res3B := fun _ => rfl
theorem EntryLength.res3C : EntryLength.Statement .res3C := fun _ => rfl
theorem EntryLength.res3D : EntryLength.Statement .res3D := fun _ => rfl
theorem EntryLength.res3E : EntryLength.Statement .res3E := fun _ => rfl
theorem EntryLength.res3H : EntryLength.Statement .res3H := fun _ => rfl
theorem EntryLength.res3L : EntryLength.Statement .res3L := fun _ => rfl
theorem EntryLength.res3AtHl : EntryLength.Statement .res3AtHl := fun _ => rfl
theorem EntryLength.res3A : EntryLength.Statement .res3A := fun _ => rfl
theorem EntryLength.res4B : EntryLength.Statement .res4B := fun _ => rfl
theorem EntryLength.res4C : EntryLength.Statement .res4C := fun _ => rfl
theorem EntryLength.res4D : EntryLength.Statement .res4D := fun _ => rfl
theorem EntryLength.res4E : EntryLength.Statement .res4E := fun _ => rfl
theorem EntryLength.res4H : EntryLength.Statement .res4H := fun _ => rfl
theorem EntryLength.res4L : EntryLength.Statement .res4L := fun _ => rfl
theorem EntryLength.res4AtHl : EntryLength.Statement .res4AtHl := fun _ => rfl
theorem EntryLength.res4A : EntryLength.Statement .res4A := fun _ => rfl
theorem EntryLength.res5B : EntryLength.Statement .res5B := fun _ => rfl
theorem EntryLength.res5C : EntryLength.Statement .res5C := fun _ => rfl
theorem EntryLength.res5D : EntryLength.Statement .res5D := fun _ => rfl
theorem EntryLength.res5E : EntryLength.Statement .res5E := fun _ => rfl
theorem EntryLength.res5H : EntryLength.Statement .res5H := fun _ => rfl
theorem EntryLength.res5L : EntryLength.Statement .res5L := fun _ => rfl
theorem EntryLength.res5AtHl : EntryLength.Statement .res5AtHl := fun _ => rfl
theorem EntryLength.res5A : EntryLength.Statement .res5A := fun _ => rfl
theorem EntryLength.res6B : EntryLength.Statement .res6B := fun _ => rfl
theorem EntryLength.res6C : EntryLength.Statement .res6C := fun _ => rfl
theorem EntryLength.res6D : EntryLength.Statement .res6D := fun _ => rfl
theorem EntryLength.res6E : EntryLength.Statement .res6E := fun _ => rfl
theorem EntryLength.res6H : EntryLength.Statement .res6H := fun _ => rfl
theorem EntryLength.res6L : EntryLength.Statement .res6L := fun _ => rfl
theorem EntryLength.res6AtHl : EntryLength.Statement .res6AtHl := fun _ => rfl
theorem EntryLength.res6A : EntryLength.Statement .res6A := fun _ => rfl
theorem EntryLength.res7B : EntryLength.Statement .res7B := fun _ => rfl
theorem EntryLength.res7C : EntryLength.Statement .res7C := fun _ => rfl
theorem EntryLength.res7D : EntryLength.Statement .res7D := fun _ => rfl
theorem EntryLength.res7E : EntryLength.Statement .res7E := fun _ => rfl
theorem EntryLength.res7H : EntryLength.Statement .res7H := fun _ => rfl
theorem EntryLength.res7L : EntryLength.Statement .res7L := fun _ => rfl
theorem EntryLength.res7AtHl : EntryLength.Statement .res7AtHl := fun _ => rfl
theorem EntryLength.res7A : EntryLength.Statement .res7A := fun _ => rfl
theorem EntryLength.set0B : EntryLength.Statement .set0B := fun _ => rfl
theorem EntryLength.set0C : EntryLength.Statement .set0C := fun _ => rfl
theorem EntryLength.set0D : EntryLength.Statement .set0D := fun _ => rfl
theorem EntryLength.set0E : EntryLength.Statement .set0E := fun _ => rfl
theorem EntryLength.set0H : EntryLength.Statement .set0H := fun _ => rfl
theorem EntryLength.set0L : EntryLength.Statement .set0L := fun _ => rfl
theorem EntryLength.set0AtHl : EntryLength.Statement .set0AtHl := fun _ => rfl
theorem EntryLength.set0A : EntryLength.Statement .set0A := fun _ => rfl
theorem EntryLength.set1B : EntryLength.Statement .set1B := fun _ => rfl
theorem EntryLength.set1C : EntryLength.Statement .set1C := fun _ => rfl
theorem EntryLength.set1D : EntryLength.Statement .set1D := fun _ => rfl
theorem EntryLength.set1E : EntryLength.Statement .set1E := fun _ => rfl
theorem EntryLength.set1H : EntryLength.Statement .set1H := fun _ => rfl
theorem EntryLength.set1L : EntryLength.Statement .set1L := fun _ => rfl
theorem EntryLength.set1AtHl : EntryLength.Statement .set1AtHl := fun _ => rfl
theorem EntryLength.set1A : EntryLength.Statement .set1A := fun _ => rfl
theorem EntryLength.set2B : EntryLength.Statement .set2B := fun _ => rfl
theorem EntryLength.set2C : EntryLength.Statement .set2C := fun _ => rfl
theorem EntryLength.set2D : EntryLength.Statement .set2D := fun _ => rfl
theorem EntryLength.set2E : EntryLength.Statement .set2E := fun _ => rfl
theorem EntryLength.set2H : EntryLength.Statement .set2H := fun _ => rfl
theorem EntryLength.set2L : EntryLength.Statement .set2L := fun _ => rfl
theorem EntryLength.set2AtHl : EntryLength.Statement .set2AtHl := fun _ => rfl
theorem EntryLength.set2A : EntryLength.Statement .set2A := fun _ => rfl
theorem EntryLength.set3B : EntryLength.Statement .set3B := fun _ => rfl
theorem EntryLength.set3C : EntryLength.Statement .set3C := fun _ => rfl
theorem EntryLength.set3D : EntryLength.Statement .set3D := fun _ => rfl
theorem EntryLength.set3E : EntryLength.Statement .set3E := fun _ => rfl
theorem EntryLength.set3H : EntryLength.Statement .set3H := fun _ => rfl
theorem EntryLength.set3L : EntryLength.Statement .set3L := fun _ => rfl
theorem EntryLength.set3AtHl : EntryLength.Statement .set3AtHl := fun _ => rfl
theorem EntryLength.set3A : EntryLength.Statement .set3A := fun _ => rfl
theorem EntryLength.set4B : EntryLength.Statement .set4B := fun _ => rfl
theorem EntryLength.set4C : EntryLength.Statement .set4C := fun _ => rfl
theorem EntryLength.set4D : EntryLength.Statement .set4D := fun _ => rfl
theorem EntryLength.set4E : EntryLength.Statement .set4E := fun _ => rfl
theorem EntryLength.set4H : EntryLength.Statement .set4H := fun _ => rfl
theorem EntryLength.set4L : EntryLength.Statement .set4L := fun _ => rfl
theorem EntryLength.set4AtHl : EntryLength.Statement .set4AtHl := fun _ => rfl
theorem EntryLength.set4A : EntryLength.Statement .set4A := fun _ => rfl
theorem EntryLength.set5B : EntryLength.Statement .set5B := fun _ => rfl
theorem EntryLength.set5C : EntryLength.Statement .set5C := fun _ => rfl
theorem EntryLength.set5D : EntryLength.Statement .set5D := fun _ => rfl
theorem EntryLength.set5E : EntryLength.Statement .set5E := fun _ => rfl
theorem EntryLength.set5H : EntryLength.Statement .set5H := fun _ => rfl
theorem EntryLength.set5L : EntryLength.Statement .set5L := fun _ => rfl
theorem EntryLength.set5AtHl : EntryLength.Statement .set5AtHl := fun _ => rfl
theorem EntryLength.set5A : EntryLength.Statement .set5A := fun _ => rfl
theorem EntryLength.set6B : EntryLength.Statement .set6B := fun _ => rfl
theorem EntryLength.set6C : EntryLength.Statement .set6C := fun _ => rfl
theorem EntryLength.set6D : EntryLength.Statement .set6D := fun _ => rfl
theorem EntryLength.set6E : EntryLength.Statement .set6E := fun _ => rfl
theorem EntryLength.set6H : EntryLength.Statement .set6H := fun _ => rfl
theorem EntryLength.set6L : EntryLength.Statement .set6L := fun _ => rfl
theorem EntryLength.set6AtHl : EntryLength.Statement .set6AtHl := fun _ => rfl
theorem EntryLength.set6A : EntryLength.Statement .set6A := fun _ => rfl
theorem EntryLength.set7B : EntryLength.Statement .set7B := fun _ => rfl
theorem EntryLength.set7C : EntryLength.Statement .set7C := fun _ => rfl
theorem EntryLength.set7D : EntryLength.Statement .set7D := fun _ => rfl
theorem EntryLength.set7E : EntryLength.Statement .set7E := fun _ => rfl
theorem EntryLength.set7H : EntryLength.Statement .set7H := fun _ => rfl
theorem EntryLength.set7L : EntryLength.Statement .set7L := fun _ => rfl
theorem EntryLength.set7AtHl : EntryLength.Statement .set7AtHl := fun _ => rfl
theorem EntryLength.set7A : EntryLength.Statement .set7A := fun _ => rfl

end Sys2Proof.Laws
end

