-- ==== Sys2Proof/Laws/Sequencer.lean ====
section
/-! SUPPORT. What the parts of the step do, said once: the sample, the opcode fetch, the boundary, the end of a segment. -/

namespace Sys2Proof.Machine

/-! ### The inputs -/

/-- Without a reset the sample changes IF, and the model's own count of steps and inputs. -/
theorem State.sample_of_noReset {s : State} (h : s.input.reset = false) :
    s.sample = { s with ifl := s.ifl ||| s.input.irq, inputs := s.inputs.tail, clock := s.clock + 1 } := by
  simp [State.sample, State.takeReset, h]

/-- With a reset the block takes its reset state first. -/
theorem State.sample_of_reset {s : State} (h : s.input.reset = true) :
    s.sample = { s.resetBlock with ifl := 1 ||| s.input.irq, inputs := s.inputs.tail, clock := s.clock + 1 } := by
  simp [State.sample, State.takeReset, h, State.resetBlock]

/-! ### The opcode fetch -/

@[simp] theorem State.passOpcode_regs (s : State) : s.passOpcode.regs = s.regs := by
  unfold State.passOpcode; split <;> rfl
@[simp] theorem State.passOpcode_ime (s : State) : s.passOpcode.ime = s.ime := by
  unfold State.passOpcode; split <;> rfl
@[simp] theorem State.passOpcode_ie (s : State) : s.passOpcode.ie = s.ie := by
  unfold State.passOpcode; split <;> rfl
@[simp] theorem State.passOpcode_ifl (s : State) : s.passOpcode.ifl = s.ifl := by
  unfold State.passOpcode; split <;> rfl
@[simp] theorem State.passOpcode_delay (s : State) : s.passOpcode.delay = s.delay := by
  unfold State.passOpcode; split <;> rfl
@[simp] theorem State.passOpcode_halted (s : State) : s.passOpcode.halted = s.halted := by
  unfold State.passOpcode; split <;> rfl
@[simp] theorem State.passOpcode_stopped (s : State) : s.passOpcode.stopped = s.stopped := by
  unfold State.passOpcode; split <;> rfl
@[simp] theorem State.passOpcode_cyclesLeft (s : State) : s.passOpcode.cyclesLeft = s.cyclesLeft := by
  unfold State.passOpcode; split <;> rfl
@[simp] theorem State.passOpcode_pendingVector (s : State) : s.passOpcode.pendingVector = s.pendingVector := by
  unfold State.passOpcode; split <;> rfl
@[simp] theorem State.passOpcode_cont (s : State) : s.passOpcode.cont = s.cont := by
  unfold State.passOpcode; split <;> rfl
@[simp] theorem State.passOpcode_diagLog (s : State) : s.passOpcode.diagLog = s.diagLog := by
  unfold State.passOpcode; split <;> rfl
@[simp] theorem State.passOpcode_mem (s : State) : s.passOpcode.mem = s.mem := by
  unfold State.passOpcode; split <;> rfl
@[simp] theorem State.passOpcode_busMap (s : State) : s.passOpcode.busMap = s.busMap := by
  unfold State.passOpcode; split <;> rfl
@[simp] theorem State.passOpcode_busLog (s : State) : s.passOpcode.busLog = s.busLog := by
  unfold State.passOpcode; split <;> rfl
@[simp] theorem State.passOpcode_clock (s : State) : s.passOpcode.clock = s.clock := by
  unfold State.passOpcode; split <;> rfl
@[simp] theorem State.passOpcode_inputs (s : State) : s.passOpcode.inputs = s.inputs := by
  unfold State.passOpcode; split <;> rfl
@[simp] theorem State.passOpcode_params (s : State) : s.passOpcode.params = s.params := by
  unfold State.passOpcode; split <;> rfl
@[simp] theorem State.takeDelay_regs (s : State) : s.takeDelay.regs = s.regs := by
  unfold State.takeDelay; split <;> rfl
@[simp] theorem State.takeDelay_pc (s : State) : s.takeDelay.pc = s.pc := by
  unfold State.takeDelay; split <;> rfl
@[simp] theorem State.takeDelay_ie (s : State) : s.takeDelay.ie = s.ie := by
  unfold State.takeDelay; split <;> rfl
@[simp] theorem State.takeDelay_ifl (s : State) : s.takeDelay.ifl = s.ifl := by
  unfold State.takeDelay; split <;> rfl
@[simp] theorem State.takeDelay_halted (s : State) : s.takeDelay.halted = s.halted := by
  unfold State.takeDelay; split <;> rfl
@[simp] theorem State.takeDelay_stopped (s : State) : s.takeDelay.stopped = s.stopped := by
  unfold State.takeDelay; split <;> rfl
@[simp] theorem State.takeDelay_haltBug (s : State) : s.takeDelay.haltBug = s.haltBug := by
  unfold State.takeDelay; split <;> rfl
@[simp] theorem State.takeDelay_cyclesLeft (s : State) : s.takeDelay.cyclesLeft = s.cyclesLeft := by
  unfold State.takeDelay; split <;> rfl
@[simp] theorem State.takeDelay_pendingVector (s : State) : s.takeDelay.pendingVector = s.pendingVector := by
  unfold State.takeDelay; split <;> rfl
@[simp] theorem State.takeDelay_cont (s : State) : s.takeDelay.cont = s.cont := by
  unfold State.takeDelay; split <;> rfl
@[simp] theorem State.takeDelay_diagLog (s : State) : s.takeDelay.diagLog = s.diagLog := by
  unfold State.takeDelay; split <;> rfl
@[simp] theorem State.takeDelay_mem (s : State) : s.takeDelay.mem = s.mem := by
  unfold State.takeDelay; split <;> rfl
@[simp] theorem State.takeDelay_busMap (s : State) : s.takeDelay.busMap = s.busMap := by
  unfold State.takeDelay; split <;> rfl
@[simp] theorem State.takeDelay_busLog (s : State) : s.takeDelay.busLog = s.busLog := by
  unfold State.takeDelay; split <;> rfl
@[simp] theorem State.takeDelay_clock (s : State) : s.takeDelay.clock = s.clock := by
  unfold State.takeDelay; split <;> rfl
@[simp] theorem State.takeDelay_inputs (s : State) : s.takeDelay.inputs = s.inputs := by
  unfold State.takeDelay; split <;> rfl
@[simp] theorem State.takeDelay_params (s : State) : s.takeDelay.params = s.params := by
  unfold State.takeDelay; split <;> rfl
@[simp] theorem State.passOpcode_haltBug (s : State) : s.passOpcode.haltBug = false := by
  unfold State.passOpcode; split
  · rfl
  · simp_all
theorem State.passOpcode_pc (s : State) : s.passOpcode.pc = if s.haltBug then s.pc else s.pc + 1 := by
  unfold State.passOpcode; split <;> rfl
@[simp] theorem State.takeDelay_delay (s : State) : s.takeDelay.delay = false := by
  unfold State.takeDelay; split
  · rfl
  · simp_all
theorem State.takeDelay_ime (s : State) : s.takeDelay.ime = (s.delay || s.ime) := by
  unfold State.takeDelay; split <;> simp_all

@[simp] theorem State.fetch_regs (s : State) : s.fetch.regs = s.regs := by simp [State.fetch, State.dispatch]
@[simp] theorem State.fetch_ie (s : State) : s.fetch.ie = s.ie := by simp [State.fetch, State.dispatch]
@[simp] theorem State.fetch_ifl (s : State) : s.fetch.ifl = s.ifl := by simp [State.fetch, State.dispatch]
@[simp] theorem State.fetch_halted (s : State) : s.fetch.halted = s.halted := by simp [State.fetch, State.dispatch]
@[simp] theorem State.fetch_stopped (s : State) : s.fetch.stopped = s.stopped := by simp [State.fetch, State.dispatch]
@[simp] theorem State.fetch_pendingVector (s : State) : s.fetch.pendingVector = s.pendingVector := by simp [State.fetch, State.dispatch]
@[simp] theorem State.fetch_diagLog (s : State) : s.fetch.diagLog = s.diagLog := by simp [State.fetch, State.dispatch]
@[simp] theorem State.fetch_mem (s : State) : s.fetch.mem = s.mem := by simp [State.fetch, State.dispatch]
@[simp] theorem State.fetch_busMap (s : State) : s.fetch.busMap = s.busMap := by simp [State.fetch, State.dispatch]
@[simp] theorem State.fetch_clock (s : State) : s.fetch.clock = s.clock := by simp [State.fetch, State.dispatch]
@[simp] theorem State.fetch_inputs (s : State) : s.fetch.inputs = s.inputs := by simp [State.fetch, State.dispatch]
@[simp] theorem State.fetch_params (s : State) : s.fetch.params = s.params := by simp [State.fetch, State.dispatch]
theorem State.fetch_pc (s : State) : s.fetch.pc = if s.haltBug then s.pc else s.pc + 1 := by
  simp only [State.fetch, State.dispatch, State.takeDelay_pc, State.passOpcode_pc]; rfl
@[simp] theorem State.fetch_haltBug (s : State) : s.fetch.haltBug = false := by simp [State.fetch, State.dispatch]
@[simp] theorem State.fetch_delay (s : State) : s.fetch.delay = false := by simp [State.fetch, State.dispatch]
theorem State.fetch_ime (s : State) : s.fetch.ime = (s.delay || s.ime) := by
  simp only [State.fetch, State.dispatch, State.takeDelay_ime]; simp
@[simp] theorem State.fetch_cyclesLeft (s : State) : s.fetch.cyclesLeft = declaredBase (s.peek s.pc) := rfl
@[simp] theorem State.fetch_cont (s : State) :
    s.fetch.cont =
      some { Continuation.fresh (.instr (decodeBase (s.peek s.pc))) with opAddr := some s.pc, op := some (s.peek s.pc) } :=
  rfl
@[simp] theorem State.fetch_busLog (s : State) :
    s.fetch.busLog = ⟨s.clock, .read, s.pc, s.peek s.pc⟩ :: s.busLog := by simp [State.fetch, State.dispatch]

/-! ### The start of an acceptance sequence, and the end of a segment -/

@[simp] theorem State.beginInterrupt_regs (s : State) : s.beginInterrupt.regs = s.regs := rfl
@[simp] theorem State.beginInterrupt_pc (s : State) : s.beginInterrupt.pc = s.pc := rfl
@[simp] theorem State.beginInterrupt_ime (s : State) : s.beginInterrupt.ime = s.ime := rfl
@[simp] theorem State.beginInterrupt_ie (s : State) : s.beginInterrupt.ie = s.ie := rfl
@[simp] theorem State.beginInterrupt_ifl (s : State) : s.beginInterrupt.ifl = s.ifl := rfl
@[simp] theorem State.beginInterrupt_delay (s : State) : s.beginInterrupt.delay = s.delay := rfl
@[simp] theorem State.beginInterrupt_halted (s : State) : s.beginInterrupt.halted = s.halted := rfl
@[simp] theorem State.beginInterrupt_stopped (s : State) : s.beginInterrupt.stopped = s.stopped := rfl
@[simp] theorem State.beginInterrupt_haltBug (s : State) : s.beginInterrupt.haltBug = s.haltBug := rfl
@[simp] theorem State.beginInterrupt_diagLog (s : State) : s.beginInterrupt.diagLog = s.diagLog := rfl
@[simp] theorem State.beginInterrupt_mem (s : State) : s.beginInterrupt.mem = s.mem := rfl
@[simp] theorem State.beginInterrupt_busMap (s : State) : s.beginInterrupt.busMap = s.busMap := rfl
@[simp] theorem State.beginInterrupt_busLog (s : State) : s.beginInterrupt.busLog = s.busLog := rfl
@[simp] theorem State.beginInterrupt_clock (s : State) : s.beginInterrupt.clock = s.clock := rfl
@[simp] theorem State.beginInterrupt_inputs (s : State) : s.beginInterrupt.inputs = s.inputs := rfl
@[simp] theorem State.beginInterrupt_params (s : State) : s.beginInterrupt.params = s.params := rfl
@[simp] theorem State.beginInterrupt_cyclesLeft (s : State) : s.beginInterrupt.cyclesLeft = 5 := rfl
@[simp] theorem State.beginInterrupt_cont (s : State) : s.beginInterrupt.cont = some (Continuation.fresh .isr) := rfl
@[simp] theorem State.beginInterrupt_pendingVector (s : State) :
    s.beginInterrupt.pendingVector = priorityVector s.pending := rfl
@[simp] theorem State.finish_regs (s : State) : s.finish.regs = s.regs := by unfold State.finish; split <;> rfl
@[simp] theorem State.finish_pc (s : State) : s.finish.pc = s.pc := by unfold State.finish; split <;> rfl
@[simp] theorem State.finish_ime (s : State) : s.finish.ime = s.ime := by unfold State.finish; split <;> rfl
@[simp] theorem State.finish_ie (s : State) : s.finish.ie = s.ie := by unfold State.finish; split <;> rfl
@[simp] theorem State.finish_ifl (s : State) : s.finish.ifl = s.ifl := by unfold State.finish; split <;> rfl
@[simp] theorem State.finish_delay (s : State) : s.finish.delay = s.delay := by unfold State.finish; split <;> rfl
@[simp] theorem State.finish_halted (s : State) : s.finish.halted = s.halted := by unfold State.finish; split <;> rfl
@[simp] theorem State.finish_stopped (s : State) : s.finish.stopped = s.stopped := by unfold State.finish; split <;> rfl
@[simp] theorem State.finish_haltBug (s : State) : s.finish.haltBug = s.haltBug := by unfold State.finish; split <;> rfl
@[simp] theorem State.finish_cyclesLeft (s : State) : s.finish.cyclesLeft = s.cyclesLeft := by unfold State.finish; split <;> rfl
@[simp] theorem State.finish_pendingVector (s : State) : s.finish.pendingVector = s.pendingVector := by unfold State.finish; split <;> rfl
@[simp] theorem State.finish_diagLog (s : State) : s.finish.diagLog = s.diagLog := by unfold State.finish; split <;> rfl
@[simp] theorem State.finish_mem (s : State) : s.finish.mem = s.mem := by unfold State.finish; split <;> rfl
@[simp] theorem State.finish_busMap (s : State) : s.finish.busMap = s.busMap := by unfold State.finish; split <;> rfl
@[simp] theorem State.finish_busLog (s : State) : s.finish.busLog = s.busLog := by unfold State.finish; split <;> rfl
@[simp] theorem State.finish_clock (s : State) : s.finish.clock = s.clock := by unfold State.finish; split <;> rfl
@[simp] theorem State.finish_inputs (s : State) : s.finish.inputs = s.inputs := by unfold State.finish; split <;> rfl
@[simp] theorem State.finish_params (s : State) : s.finish.params = s.params := by unfold State.finish; split <;> rfl
theorem State.finish_of_done {s : State} (h : s.cyclesLeft = 0) : s.finish = { s with cont := none } := if_pos h
theorem State.finish_of_left {s : State} (h : s.cyclesLeft ≠ 0) :
    s.finish = s.onCont fun c => { c with k := c.k + 1 } := if_neg h

/-! ### The boundary and the segment -/

/-- The Halted check (R142). -/
theorem State.checkHalted_cases (s : State) :
    (s.halted = true ∧ s.pending = 0 ∧ s.checkHalted = .idle s) ∨
    (s.halted = true ∧ s.pending ≠ 0 ∧ s.checkHalted = .go { s with halted := false }.start) ∨
    (s.halted = false ∧ s.checkHalted = .go s.start) := by
  unfold State.checkHalted
  by_cases h : s.halted = true
  · by_cases hp : s.pending ≠ 0
    · exact .inr (.inl ⟨h, hp, by rw [if_pos h, if_pos hp]⟩)
    · exact .inl ⟨h, by simpa using hp, by rw [if_pos h, if_neg hp]⟩
  · exact .inr (.inr ⟨by simpa using h, by rw [if_neg h]⟩)

/-- The boundary of a state that is neither halted nor stopped. -/
theorem State.boundary_of_awake {s : State} (h : s.halted = false) (hs : s.stopped = false) :
    s.boundary = .go s.start := by
  simp [State.boundary, State.checkHalted, h, hs]

/-- A boundary that is awake, or whose wait ends in this step, goes on from the awake state (R142). -/
theorem step_of_awake {s : State} (h : s.sample.cyclesLeft = 0)
    (hs : s.sample.stopped = true → s.sample.stopWakes = true) (hh : s.sample.halted = true → s.sample.pending ≠ 0) :
    step s = runSegment { s.sample with halted := false, stopped := false }.start := by
  rw [step_boundary h]
  generalize s.sample = u at *
  obtain ⟨_, _, _, _, _, _, halted, stopped, _, _, _, _, _, _, _, _, _, _, _⟩ := u
  cases halted <;> cases stopped <;> simp_all [State.boundary, State.checkHalted, State.pending]

/-- A segment answers next exactly where its routine does; the state is then counted on. -/
theorem runSegment_next_iff {s t : State} :
    runSegment s = .next t ↔
      ∃ c, s.cont = some c ∧ ∃ u, runRoutine c.routine { s with cyclesLeft := s.cyclesLeft - 1 } = .next u ∧ u.finish = t := by
  unfold runSegment
  split <;> simp [*, andThen_next_iff]

/-- An instruction other than the CB prefix runs its own segment and no other. -/
theorem runInstr_of_ne {i : Instr} (h : i ≠ .prefixCB) (s : State) : runInstr i s = exec i s := by
  unfold runInstr
  cases exec i s <;> simp [cbDispatched, h]

end Sys2Proof.Machine
end

