-- ==== Sys2Proof/Tests/Slice0.lean ====
section
/-! SUPPORT. The model's own tests: ill-formed instructions that the checks refuse, words written out from the spec's
encodings, single steps with the results that spec/95_test_vectors.md gives (each test names its vector), and for every
statement with hypotheses a named witness that meets them. -/

namespace Sys2Proof.Tests

open Sys2Proof Sys2Proof.Machine

/-! ### Helpers -/

/-- A boundary at PC 0x0100, IF 0, with these registers and this code, on the reference bus (R86). -/
def prog (f : RegFile) (code : List Byte) : State :=
  { State.reset with pc := 0x0100, ifl := 0, regs := f, mem := storeBytes [] 0x0100 code }

/-- The instruction `i` in flight, its next segment `k`, `left` cycles left. -/
def mid (i : Instr) (k left : Nat) (lo hi tmp : Option Byte) (s : State) : State :=
  { s with cyclesLeft := left, cont := some ⟨.instr i, k, some 0x0100, some 0x00, none, lo, hi, tmp⟩ }

/-- The acceptance sequence in flight, its next segment `k`. -/
def midIsr (k : Nat) (v : Option IntSource) (s : State) : State :=
  { s with cyclesLeft := 5 - k, pendingVector := v, cont := some { Continuation.fresh .isr with k := k } }

/-- What a next state shows; none where there is no next state. -/
def view {α : Type} (o : Host.Outcome State Fault Refusal) (f : State → α) : Option α :=
  match o with
  | .next s => some (f s)
  | .fault _ => none
  | .refused _ => none

/-- On the reference bus every address is memory. -/
theorem handler_ram {s : State} (h : s.busMap = [⟨0x0000, 0xFFFF, .ram⟩]) (a : Word) : s.handler a = some .ram := by
  have : (0 : Word) ≤ a ∧ a ≤ 0xFFFF := ⟨by simp [BitVec.le_def], by have := a.isLt; simp [BitVec.le_def]; omega⟩
  simpa [State.handler, h, Region.accepts] using this

/-- All registers 0 but A and F. -/
def withAF (a f : Byte) : RegFile := { RegFile.zero with a := a, flags := Flags.ofByte f }

/-- HL and F. -/
def withHlF (hl : Word) (f : Byte) : RegFile :=
  { RegFile.zero with h := highByte hl, l := lowByte hl, flags := Flags.ofByte f }

/-- SP and F. -/
def withSpF (sp : Word) (f : Byte) : RegFile := { RegFile.zero with sp := sp, flags := Flags.ofByte f }

/-- A and F. -/
def af (s : State) : Byte × Byte := (s.regs.a, s.regs.flags.toByte)

/-! ### WellFormed -/

/-- "0xCB is not an instruction by itself" (R388). -/
theorem test_bare_prefix_is_refused : Code.isWhole ⟨.prefixCB, []⟩ = false ∧ Code.wf ⟨.prefixCB, []⟩ = false := by decide

/-- `LD B,n8` without its byte; NOP with a byte (R114). -/
theorem test_wrong_operand_count_is_refused :
    Code.operandsFit ⟨.ldBN8, []⟩ = false ∧ Code.wf ⟨.ldBN8, []⟩ = false ∧ Code.wf ⟨.nop, [0x00]⟩ = false := by decide

/-! ### Words written out from the encodings of spec/30_encoding.md -/

/-- `x` in bits 7 to 6, `y` in 5 to 3, `z` in 2 to 0; registers by R104, pairs by R105. -/
theorem test_decode_load8 :
    decode [0b01_010_000] = .ok (⟨.ldDB, []⟩, []) ∧ decode [0b00_111_110, 5] = .ok (⟨.ldAN8, [5]⟩, []) ∧
    decode [0b01_011_110] = .ok (⟨.ldEAtHl, []⟩, []) ∧ decode [0b01_110_111] = .ok (⟨.ldAtHlA, []⟩, []) ∧
    decode [0b00_110_110, 0x99] = .ok (⟨.ldAtHlN8, [0x99]⟩, []) ∧ decode [0b00_001_010] = .ok (⟨.ldAAtBc, []⟩, []) ∧
    decode [0b00_010_010] = .ok (⟨.ldAtDeA, []⟩, []) := by decide
theorem test_decode_load8_step :
    decode [0b00_101_010] = .ok (⟨.ldAAtHlInc, []⟩, []) ∧
    decode [0b00_111_010] = .ok (⟨.ldAAtHlDec, []⟩, []) ∧ decode [0b00_100_010] = .ok (⟨.ldAtHlIncA, []⟩, []) ∧
    decode [0b00_110_010] = .ok (⟨.ldAtHlDecA, []⟩, []) := by decide
theorem test_decode_load8_absolute :
    decode [0b11_111_010, 0x23, 0xC1] = .ok (⟨.ldAAtN16, [0x23, 0xC1]⟩, []) ∧
    decode [0b11_101_010, 0x23, 0xC1] = .ok (⟨.ldAtN16A, [0x23, 0xC1]⟩, []) ∧
    decode [0b11_110_000, 0x0F] = .ok (⟨.ldhAAtN8, [0x0F]⟩, []) ∧
    decode [0b11_100_000, 0x0F] = .ok (⟨.ldhAtN8A, [0x0F]⟩, []) ∧ decode [0b11_110_010] = .ok (⟨.ldAAtC, []⟩, []) ∧
    decode [0b11_100_010] = .ok (⟨.ldAtCA, []⟩, []) := by decide
theorem test_decode_load16 :
    decode [0b00_010_001, 0x34, 0x12] = .ok (⟨.ldDeN16, [0x34, 0x12]⟩, []) ∧
    decode [0b00_001_000, 0x00, 0xC1] = .ok (⟨.ldAtN16Sp, [0x00, 0xC1]⟩, []) ∧
    decode [0b11_111_001] = .ok (⟨.ldSpHl, []⟩, []) ∧ decode [0b11_000_101] = .ok (⟨.pushBc, []⟩, []) ∧
    decode [0b11_110_001] = .ok (⟨.popAf, []⟩, []) := by decide
theorem test_decode_alu :
    decode [0b10_011_100] = .ok (⟨.sbcAH, []⟩, []) ∧ decode [0b10_000_110] = .ok (⟨.addAAtHl, []⟩, []) ∧
    decode [0b11_111_110, 0x40] = .ok (⟨.cpN8, [0x40]⟩, []) ∧ decode [0b00_111_100] = .ok (⟨.incA, []⟩, []) ∧
    decode [0b00_110_101] = .ok (⟨.decAtHl, []⟩, []) ∧ decode [0b00_100_111] = .ok (⟨.daa, []⟩, []) ∧
    decode [0b00_101_111] = .ok (⟨.cpl, []⟩, []) := by decide
theorem test_decode_flags_and_arith16 :
    decode [0b00_110_111] = .ok (⟨.scf, []⟩, []) ∧
    decode [0b00_111_111] = .ok (⟨.ccf, []⟩, []) ∧ decode [0b00_111_001] = .ok (⟨.addHlSp, []⟩, []) ∧
    decode [0b00_000_011] = .ok (⟨.incBc, []⟩, []) ∧ decode [0b00_101_011] = .ok (⟨.decHl, []⟩, []) ∧
    decode [0b11_101_000, 0x02] = .ok (⟨.addSpE8, [0x02]⟩, []) ∧
    decode [0b11_111_000, 0x02] = .ok (⟨.ldHlSpE8, [0x02]⟩, []) := by decide
theorem test_decode_rotate_and_bit :
    decode [0b00_000_111] = .ok (⟨.rlca, []⟩, []) ∧ decode [0b00_001_111] = .ok (⟨.rrca, []⟩, []) ∧
    decode [0b00_010_111] = .ok (⟨.rla, []⟩, []) ∧ decode [0b00_011_111] = .ok (⟨.rra, []⟩, []) ∧
    decode [0xCB, 0b00_010_001] = .ok (⟨.rlC, []⟩, []) ∧ decode [0xCB, 0b00_110_110] = .ok (⟨.swapAtHl, []⟩, []) ∧
    decode [0xCB, 0b01_111_100] = .ok (⟨.bit7H, []⟩, []) ∧ decode [0xCB, 0b10_000_110] = .ok (⟨.res0AtHl, []⟩, []) ∧
    decode [0xCB, 0b11_111_011] = .ok (⟨.set7E, []⟩, []) := by decide
theorem test_decode_control :
    decode [0b11_000_011, 0x50, 0x01] = .ok (⟨.jpN16, [0x50, 0x01]⟩, []) ∧
    decode [0b11_010_010, 0x50, 0x01] = .ok (⟨.jpNcN16, [0x50, 0x01]⟩, []) ∧
    decode [0b00_011_000, 0xFE] = .ok (⟨.jrE8, [0xFE]⟩, []) ∧
    decode [0b00_111_000, 0x80] = .ok (⟨.jrCE8, [0x80]⟩, []) ∧
    decode [0b11_101_001] = .ok (⟨.jpHl, []⟩, []) := by decide
theorem test_decode_call_and_return :
    decode [0b11_001_101, 0x00, 0x20] = .ok (⟨.callN16, [0x00, 0x20]⟩, []) ∧
    decode [0b11_001_100, 0x00, 0x20] = .ok (⟨.callZN16, [0x00, 0x20]⟩, []) ∧
    decode [0b11_001_001] = .ok (⟨.ret, []⟩, []) ∧ decode [0b11_000_000] = .ok (⟨.retNz, []⟩, []) ∧
    decode [0b11_011_001] = .ok (⟨.reti, []⟩, []) ∧ decode [0b11_111_111] = .ok (⟨.rst38, []⟩, []) := by decide
theorem test_decode_system :
    decode [0b00_000_000] = .ok (⟨.nop, []⟩, []) ∧ decode [0b00_010_000, 0x00] = .ok (⟨.stop, [0x00]⟩, []) ∧
    decode [0b01_110_110] = .ok (⟨.halt, []⟩, []) ∧ decode [0b11_110_011] = .ok (⟨.di, []⟩, []) ∧
    decode [0b11_111_011] = .ok (⟨.ei, []⟩, []) ∧ decode [0b11_011_101] = .ok (⟨.undefDD, []⟩, []) := by decide

/-! ### Single steps, 8-bit loads -/

/-- V-L8-1. -/
theorem test_ld_d_b : view (step (prog { RegFile.zero with b := 0x5A } [0x50])) (fun t => (t.regs.d, t.pc, t.cyclesLeft)) =
    some (0x5A, 0x0101, 0) := by decide
/-- S1, its second step. -/
theorem test_ld_a_n8 : view (step (mid .ldAN8 1 1 none none none (prog RegFile.zero [0x05])))
    (fun t => (t.regs.a, t.pc, t.cont)) = some (0x05, 0x0101, none) := by decide
/-- V-L8-3. -/
theorem test_ld_at_hl_a : view (step (mid .ldAtHlA 1 1 none none none (prog { withHlF 0xC000 0 with a := 0x3C } [])))
    (fun t => (t.content 0xC000, t.busLog)) = some (0x3C, [⟨1, .write, 0xC000, 0x3C⟩]) := by decide
/-- V-L8-4, step 3. -/
theorem test_ld_at_hl_n8 : view (step (mid .ldAtHlN8 2 1 none none (some 0x99) (prog (withHlF 0xC000 0) [])))
    (fun t => t.content 0xC000) = some 0x99 := by decide
/-- V-L8-7. -/
theorem test_ld_at_hl_inc_a : view (step (mid .ldAtHlIncA 1 1 none none none (prog { withHlF 0xC0FF 0 with a := 0x56 } [])))
    (fun t => (t.content 0xC0FF, t.hl)) = some (0x56, 0xC100) := by decide
/-- V-L8-9: IE read at 0xFFFF, HL wraps. -/
theorem test_ld_a_at_hl_inc : view (step (mid .ldAAtHlInc 1 1 none none none { prog (withHlF 0xFFFF 0) [] with ie := 0x1F }))
    (fun t => (t.regs.a, t.hl)) = some (0x1F, 0x0000) := by decide
/-- V-L8-10, step 4. -/
theorem test_ld_a_at_n16 : view (step (mid .ldAAtN16 3 1 (some 0x23) (some 0xC1) none
      { prog RegFile.zero [] with mem := storeBytes [] 0xC123 [0xAB] })) (fun t => t.regs.a) = some 0xAB := by decide
/-- V-L8-12: the write stores the low five bits of A. -/
theorem test_ldh_at_n8_a : view (step (mid .ldhAtN8A 2 1 none none (some 0x0F) { prog RegFile.zero [] with ifl := 1 }))
    (fun t => (t.ifl, t.ifRead)) = some (0x00, 0xE0) := by decide
/-- V-L8-13. -/
theorem test_ldh_a_at_n8 : view (step (mid .ldhAAtN8 2 1 none none (some 0x0F) { prog RegFile.zero [] with ifl := 1 }))
    (fun t => t.regs.a) = some 0xE1 := by decide
/-- V-L8-14. -/
theorem test_ld_at_c_a : view (step (mid .ldAtCA 1 1 none none none (prog { RegFile.zero with a := 0x42, c := 0x80 } [])))
    (fun t => t.content 0xFF80) = some 0x42 := by decide

/-! ### 16-bit loads and the stack -/

/-- V-L16-2, step 5: the high byte at the next address. -/
theorem test_ld_at_n16_sp : view (step (mid .ldAtN16Sp 4 1 (some 0x00) (some 0xC1) none (prog (withSpF 0xFFF8 0) [])))
    (fun t => (t.content 0xC101, t.content 0xC100)) = some (0xFF, 0x00) := by decide
/-- V-L16-4, step 3. -/
theorem test_push_bc : view (step (mid .pushBc 2 2 none none none (prog { withSpF 0xFFFD 0 with b := 0x12, c := 0x34 } [])))
    (fun t => (t.content 0xFFFD, t.sp)) = some (0x12, 0xFFFC) := by decide
/-- V-L16-5, step 3: the low nibble of F stays 0. -/
theorem test_pop_af : view (step (mid .popAf 2 1 (some 0xFF) none none
      { prog (withSpF 0xFFFD 0) [] with mem := storeBytes [] 0xFFFD [0x12] })) (fun t => (af t, t.sp)) =
    some ((0x12, 0xF0), 0xFFFE) := by decide

/-! ### Arithmetic and logic -/

/-- V-A8-1. -/
theorem test_add_a_b : view (step (prog { RegFile.zero with a := 0x3A, b := 0xC6 } [0x80])) af = some (0x00, 0xB0) := by decide
/-- V-A8-3. -/
theorem test_adc_a_e : view (step (prog { withAF 0xE1 0x10 with e := 0x0F } [0x8B])) af = some (0xF1, 0x20) := by decide
/-- V-A8-6. -/
theorem test_sbc_a_h : view (step (prog { withAF 0x3B 0x10 with h := 0x2A } [0x9C])) af = some (0x10, 0x40) := by decide
/-- V-A8-7. -/
theorem test_sbc_a_a : view (step (prog (withAF 0x77 0x10) [0x9F])) af = some (0xFF, 0x70) := by decide
/-- V-A8-8. -/
theorem test_and_l : view (step (prog { withAF 0x5A 0x00 with l := 0x3F } [0xA5])) af = some (0x1A, 0x20) := by decide
/-- V-A8-8f, step 2. -/
theorem test_cp_n8 : view (step (mid .cpN8 1 1 none none none (prog (withAF 0x3C 0x00) [0x40]))) af =
    some (0x3C, 0x50) := by decide
/-- V-A8-9. -/
theorem test_inc_a : view (step (prog (withAF 0xFF 0x10) [0x3C])) af = some (0x00, 0xB0) := by decide
/-- V-A8-11. -/
theorem test_dec_b : view (step (prog { withAF 0x00 0x10 with b := 0x10 } [0x05]))
    (fun t => (t.regs.b, t.regs.flags.toByte)) = some (0x0F, 0x70) := by decide
/-- V-A8-12, step 3. -/
theorem test_inc_at_hl : view (step (mid .incAtHl 2 1 none none (some 0xFF) (prog (withHlF 0xC000 0x00) [])))
    (fun t => (t.content 0xC000, t.regs.flags.toByte)) = some (0x00, 0xA0) := by decide
/-- V-A8-14 and V-A8-15. -/
theorem test_daa : view (step (prog (withAF 0x7D 0x00) [0x27])) af = some (0x83, 0x00) ∧
    view (step (prog (withAF 0x4B 0x60) [0x27])) af = some (0x45, 0x40) := by decide
/-- V-A8-17. -/
theorem test_cpl : view (step (prog (withAF 0x35 0x00) [0x2F])) af = some (0xCA, 0x60) := by decide
/-- V-A8-18, V-A8-19. -/
theorem test_scf_ccf : view (step (prog (withAF 0 0x80) [0x37])) af = some (0, 0x90) ∧
    view (step (prog (withAF 0 0x90) [0x3F])) af = some (0, 0x80) := by decide
/-- V-A16-1: Z is kept. -/
theorem test_add_hl_bc : view (step (mid .addHlBc 1 1 none none none
      (prog { withHlF 0x8A23 0x80 with b := 0x06, c := 0x05 } []))) (fun t => (t.hl, t.regs.flags.toByte)) =
    some (0x9028, 0xA0) := by decide
/-- V-A16-9. -/
theorem test_add_sp_e8 : view (step (mid .addSpE8 3 1 none none (some 0xFF) (prog (withSpF 0xFFF8 0xC0) [])))
    (fun t => (t.sp, t.regs.flags.toByte)) = some (0xFFF7, 0x30) := by decide

/-! ### Rotates and bits (M2 of the prefix and of the CB routine are one step) -/

/-- V-R-1. -/
theorem test_rlca : view (step (prog (withAF 0x85 0x80) [0x07])) af = some (0x0B, 0x10) := by decide
/-- V-R-4. -/
theorem test_rra : view (step (prog (withAF 0x81 0x00) [0x1F])) af = some (0x40, 0x10) := by decide
/-- V-R-9. -/
theorem test_rl_c : view (step (mid .prefixCB 1 1 none none none (prog { RegFile.zero with c := 0x80 } [0x11])))
    (fun t => (t.regs.c, t.regs.flags.toByte)) = some (0x00, 0x90) := by decide
/-- V-R-15. -/
theorem test_sra_a : view (step (mid .prefixCB 1 1 none none none (prog (withAF 0x8A 0x10) [0x2F]))) af =
    some (0xC5, 0x00) := by decide
/-- V-R-20, step 4. -/
theorem test_swap_at_hl : view (step (mid .swapAtHl 3 1 none none (some 0xF0) (prog (withHlF 0xC000 0) [])))
    (fun t => (t.content 0xC000, t.regs.flags.toByte)) = some (0x0F, 0x00) := by decide
/-- S3: `BIT 7,H`, its second step. -/
theorem test_bit_7_h : view (step (mid .prefixCB 1 1 none none none (prog (withHlF 0x8000 0x10) [0x7C])))
    (fun t => (t.regs.h, t.regs.flags.toByte, t.cont)) = some (0x80, 0x30, none) := by decide
/-- V-B-5: the second step leaves two more. -/
theorem test_res_0_at_hl : view (step (mid .prefixCB 1 1 none none none (prog (withHlF 0xC000 0) [0x86])))
    (fun t => (t.cyclesLeft, t.cont.map (·.k), t.cont.map (·.routine))) =
    some (2, some 2, some (.instr .res0AtHl)) := by decide
/-- V-B-8, step 4: a write of IF stores five bits. -/
theorem test_set_7_at_if : view (step (mid .set7AtHl 3 1 none none (some 0xE1) { prog (withHlF 0xFF0F 0) [] with ifl := 1 }))
    (fun t => (t.ifl, t.busLog)) = some (0x01, [⟨1, .write, 0xFF0F, 0xE1⟩]) := by decide

/-! ### Control transfer -/

/-- V-C-3 and V-C-2, step 3: the condition adds a cycle. -/
theorem test_jp_nz : view (step (mid .jpNzN16 2 1 (some 0x50) none none (prog (withAF 0 0x00) [0x01])))
      (fun t => (t.cyclesLeft, t.cont.map (·.k))) = some (1, some 3) ∧
    view (step (mid .jpNzN16 2 1 (some 0x50) none none (prog (withAF 0 0x80) [0x01])))
      (fun t => (t.cyclesLeft, t.cont.map (·.k))) = some (0, none) := by decide
/-- V-C-4. -/
theorem test_jp_hl : view (step (prog (withHlF 0xC123 0) [0xE9])) (fun t => t.pc) = some 0xC123 := by decide
/-- V-C-6, step 3. -/
theorem test_jr_back : view (step (mid .jrE8 2 1 none none (some 0xFE) { prog RegFile.zero [] with pc := 0x0102 }))
    (fun t => t.pc) = some 0x0100 := by decide
/-- V-C-10, step 6. -/
theorem test_call : view (step (mid .callN16 5 1 (some 0x00) (some 0x20) none
      { prog (withSpF 0xFFFC 0) [] with pc := 0x0103 })) (fun t => (t.pc, t.content 0xFFFC, t.sp)) =
    some (0x2000, 0x03, 0xFFFC) := by decide
/-- V-C-14 and V-C-15, step 2. -/
theorem test_ret_z : view (step (mid .retZ 1 1 none none none (prog (withSpF 0xFFFC 0x80) []))) (fun t => t.cyclesLeft) =
      some 3 ∧
    view (step (mid .retZ 1 1 none none none (prog (withSpF 0xFFFC 0x00) []))) (fun t => t.cyclesLeft) = some 0 := by decide
/-- V-C-16, step 4. -/
theorem test_reti : view (step (mid .reti 3 1 (some 0x03) (some 0x01) none (prog RegFile.zero []))) (fun t => (t.pc, t.ime)) =
    some (0x0103, true) := by decide
/-- V-C-17, step 4. -/
theorem test_rst_38 : view (step (mid .rst38 3 1 none none none { prog (withSpF 0xFFFC 0) [] with pc := 0x0101 }))
    (fun t => (t.pc, t.content 0xFFFC)) = some (0x0038, 0x01) := by decide

/-! ### System instructions, interrupts, reset -/

/-- V-SYS-1, as the first instruction after reset. -/
theorem test_nop_from_reset : view (step State.reset) (fun t => (t.pc, t.cyclesLeft, t.busLog)) =
    some (0x0001, 0, [⟨1, .read, 0x0000, 0x00⟩]) := by decide
/-- V-SYS-2, steps 1 and 2. -/
theorem test_ei : view (step { prog RegFile.zero [0xFB] with ie := 1, ifl := 1 }) (fun t => (t.ime, t.delay)) =
      some (false, true) ∧
    view (step { prog RegFile.zero [0x00] with ie := 1, ifl := 1, delay := true }) (fun t => (t.ime, t.delay, t.pc)) =
      some (true, false, 0x0101) := by decide
/-- V-SYS-3. -/
theorem test_di : view (step { prog RegFile.zero [0xF3] with ime := true }) (fun t => t.ime) = some false := by decide
/-- V-SYS-4: the halt bug. -/
theorem test_halt_bug : view (step { prog RegFile.zero [0x76] with ie := 1, ifl := 1 }) (fun t => (t.halted, t.haltBug)) =
      some (false, true) ∧
    view (step { prog RegFile.zero [0x3C] with ie := 1, ifl := 1, haltBug := true })
      (fun t => (t.regs.a, t.pc, t.haltBug)) = some (0x01, 0x0100, false) := by decide
/-- V-SYS-6, step 4: the request ends Halted and the same step fetches. -/
theorem test_halt_wakes : view (step { prog RegFile.zero [0x3C] with ie := 1, halted := true, inputs := [⟨false, 1⟩] })
    (fun t => (t.halted, t.ifl, t.regs.a, t.pc)) = some (false, 0x01, 0x01, 0x0101) := by decide
/-- V-SYS-8, step 1: the byte after STOP is not read. -/
theorem test_stop : view (step (prog RegFile.zero [0x10, 0x00])) (fun t => (t.pc, t.stopped, t.busLog.length)) =
    some (0x0102, true, 1) := by decide
/-- V-SYS-9. -/
theorem test_unimplemented : view (step { prog RegFile.zero [] with pc := 0x0200, mem := storeBytes [] 0x0200 [0xD3] })
    (fun t => (t.pc, t.diagLog)) = some (0x0201, [(0xD3, 0x0200)]) := by decide
/-- S2, step 5. -/
theorem test_interrupt_jump : view (step (midIsr 4 (some .vblank) { prog RegFile.zero [] with ie := 1, ifl := 1 }))
    (fun t => (t.pc, t.ifl, t.ime, t.cont)) = some (0x0040, 0x00, false, none) := by decide
/-- V-INT-1: the Timer first. -/
theorem test_priority : priorityVector 0x1C = some .timer ∧ IntSource.timer.vector = 0x0050 := by decide
/-- V-INT-2, step 3: the push changes IE and the vector. -/
theorem test_ie_push : view (step (midIsr 2 (some .vblank)
      { prog RegFile.zero [] with pc := 0x1234, ie := 1, ifl := 3 })) (fun t => (t.ie, t.sp, t.pendingVector)) =
    some (0x12, 0xFFFF, some .lcd) := by decide
/-- V-INT-4, step 5: no vector is left. -/
theorem test_cancelled : view (step (midIsr 4 none { prog RegFile.zero [] with ifl := 3 })) (fun t => (t.pc, t.ifl)) =
    some (0x0000, 0x03) := by decide
/-- V-RST-1, and a reset asserted during an instruction. -/
theorem test_reset : State.reset.pc = 0x0000 ∧ State.reset.ifRead = 0xE1 ∧
    view (step { mid .jpN16 2 2 none none none (prog RegFile.zero []) with ime := true, inputs := [⟨true, 0⟩] })
      (fun t => (t.pc, t.ime, t.ifl, t.busLog)) = some (0x0001, false, 0x01, [⟨1, .read, 0x0000, 0x00⟩]) := by decide

/-! ### Placing an instruction (notes/assumptions/12.md) -/

/-- `SET 7,E`, STOP and `CALL C,n16` as the table numbers them. -/
theorem test_table_words : decodeTableWord 16 0xCBFB = some .set7E ∧ decodeTableWord 16 0x1000 = some .stop ∧
    decodeTableWord 8 0xDC = some .callCN16 ∧
    view (step (State.reset.withFetchWord 16 0xCBFB)) (fun t => t.cont.map (·.op)) = some (some (some 0xCB)) := by decide

/-! ### Witnesses: concrete states and operands that meet the hypotheses of the statements -/

/-- Three instructions with the numbers of operand bytes there are, one of them a CB instruction. -/
theorem witness_DecodeOfEncodeIsTheInstruction :
    Code.wf ⟨.ldAtN16Sp, [0x00, 0xC1]⟩ = true ∧ Code.wf ⟨.jrE8, [0x80]⟩ = true ∧ Code.wf ⟨.set7A, []⟩ = true := by decide
theorem witness_EncodeOfDecodeIsTheBytes :
    decode [0xCB, 0xFF, 0x00] = .ok (⟨.set7A, []⟩, [0x00]) ∧ decode [0x18, 0x80] = .ok (⟨.jrE8, [0x80]⟩, []) := by decide
theorem witness_MemoryReadsWhatWasWritten :
    Memory.wf State.reset.mem = true ∧ State.reset.handler 0x0000 = some .ram ∧
    State.reset.handler 0xFF0E = some .ram ∧ State.reset.handler 0xFFFE = some .ram ∧ (0xFFFF : Word) ≠ 0xFF0F ∧ State.reset.handler 0xFFFF ≠ some .device := by decide
theorem witness_BlockDecodesTwoAddresses :
    ((0xFF0F : Word) = 0xFF0F ∨ (0xFF0F : Word) = 0xFFFF) ∧ ((0xFFFF : Word) = 0xFF0F ∨ (0xFFFF : Word) = 0xFFFF) ∧
    (0xFFFE : Word) ≠ 0xFF0F ∧ (0xFFFE : Word) ≠ 0xFFFF := by decide
/-- A map with a hole: the second handler serves 0x8000, none serves 0xC000. -/
theorem witness_FirstAcceptingHandlerServes :
    let r : Region := ⟨0x0000, 0x7FFF, .rom⟩
    let q : Region := ⟨0x4000, 0xBFFF, .ram⟩
    (∀ p ∈ [r], p.accepts 0x8000 = false) ∧ q.accepts 0x8000 = true ∧ (∀ p ∈ [r, q], p.accepts 0xC000 = false) ∧
    r.accepts 0x7FFF = true ∧ q.accepts 0xBFFF = true := by decide
theorem witness_AtMostOneBusTransactionPerStep : (view (step State.reset) fun _ => ()) = some () := by decide
theorem witness_DaaLeavesTheDecimalResult : (0 : Nat) < 100 ∧ (99 : Nat) < 100 := by decide

/-- A state that stands at segment `k`, with every local at `v`. -/
def standing (k : Nat) (v : Byte) : State := mid .nop k 1 (some v) (some v) (some v) (prog RegFile.zero [])

/-- Every family's results: the segments 0 to 5, with the locals at the ends of their range. -/
theorem witness_segments : ∀ k ∈ [0, 1, 2, 3, 4, 5],
    (standing k 0).standsAt k ∧ (standing k 0).holdsTmp 0 ∧ (standing k 0).holdsLo 0 ∧ (standing k 0).holdsHi 0 ∧
    (standing k 0xFF).holdsTmp 0xFF ∧ (standing k 0xFF).holdsLo 0xFF ∧ (standing k 0xFF).holdsHi 0xFF := by decide
theorem witness_RegisterAndHlLoads : (standing 0 0).standsAt 0 ∧ (standing 1 0).standsAt 1 ∧
    (standing 2 0xFF).standsAt 2 ∧ (standing 2 0xFF).holdsTmp 0xFF := by decide
theorem witness_AccumulatorLoadsThroughPairs : (standing 0 0).standsAt 0 ∧ (standing 1 0).standsAt 1 := by decide
theorem witness_AbsoluteAndHighPageLoads : Instr.ldAAtN16 ∈ [Instr.ldAAtN16, .ldAtN16A] ∧
    (standing 3 0xFF).standsAt 3 ∧ (standing 3 0xFF).holdsLo 0xFF ∧ (standing 3 0xFF).holdsHi 0xFF ∧
    (standing 2 0x0F).standsAt 2 ∧ (standing 2 0x0F).holdsTmp 0x0F := by decide
theorem witness_SixteenBitLoads : (standing 2 0).standsAt 2 ∧ (standing 2 0).holdsLo 0 ∧ (standing 4 0xFF).standsAt 4 ∧
    (standing 4 0xFF).holdsLo 0xFF ∧ (standing 4 0xFF).holdsHi 0xFF := by decide
theorem witness_PushAndPop : (standing 3 0).standsAt 3 ∧ (standing 2 0xFF).standsAt 2 ∧ (standing 2 0xFF).holdsLo 0xFF := by
  decide
theorem witness_AccumulatorOperations : (standing 0 0).standsAt 0 ∧ (standing 1 0).standsAt 1 := by decide
theorem witness_IncrementAndDecrementBytes : (standing 0 0).standsAt 0 ∧ (standing 2 0xFF).standsAt 2 ∧
    (standing 2 0xFF).holdsTmp 0xFF := by decide
theorem witness_DecimalAdjustAndFlagOperations : (standing 0 0).standsAt 0 := by decide
theorem witness_SixteenBitArithmetic : (standing 0 0).standsAt 0 ∧ (standing 1 0).standsAt 1 := by decide
theorem witness_StackPointerPlusDisplacement : (standing 3 0x80).standsAt 3 ∧ (standing 3 0x80).holdsTmp 0x80 ∧
    (standing 2 0x7F).standsAt 2 ∧ (standing 2 0x7F).holdsTmp 0x7F := by decide
theorem witness_AccumulatorRotates : (standing 0 0).standsAt 0 ∧ (Instr.rra, RotOp.rr) ∈
    [(Instr.rlca, RotOp.rlc), (.rrca, .rrc), (.rla, .rl), (.rra, .rr)] := by decide
theorem witness_RotatesOnRegisters : (standing 1 0).standsAt 1 := by decide
theorem witness_RotatesOnMemory : (standing 2 0).standsAt 2 ∧ (standing 3 0x80).standsAt 3 ∧
    (standing 3 0x80).holdsTmp 0x80 := by decide
theorem witness_BitTestResetAndSet : (standing 1 0).standsAt 1 ∧ (standing 2 0).standsAt 2 ∧ (standing 3 0xFF).standsAt 3 ∧
    (standing 3 0xFF).holdsTmp 0xFF ∧ (7 : Nat) < 8 := by decide
theorem witness_Jumps : (standing 2 0x80).standsAt 2 ∧ (standing 2 0x80).holdsTmp 0x80 ∧ (standing 3 0xFF).standsAt 3 ∧
    (standing 3 0xFF).holdsLo 0xFF ∧ (standing 3 0xFF).holdsHi 0xFF := by decide
theorem witness_CallsAndRestarts : (standing 4 0).standsAt 4 ∧ (standing 5 0).standsAt 5 ∧ (standing 5 0).holdsLo 0 ∧
    (standing 5 0).holdsHi 0 := by decide
theorem witness_Returns : (standing 3 0).standsAt 3 ∧ (standing 4 0).standsAt 4 ∧ (standing 4 0).holdsLo 0 ∧
    (standing 4 0).holdsHi 0 := by decide
theorem witness_NopAndInterruptEnable : (standing 0 0).standsAt 0 ∧ ({ standing 0 0 with delay := true }).delay = true ∧
    (standing 0 0).delay = false := by decide
theorem witness_HaltAndStop :
    ({ standing 0 0 with ime := true }).standsAt 0 ∧ ({ standing 0 0 with ime := true }).ime = true ∧
    (standing 0 0).ime = false ∧ (standing 0 0).pending = 0 ∧
    ({ standing 0 0 with ie := 0x10, ifl := 0x10 }).pending ≠ 0 := by decide
theorem witness_CbPrefixSelectsTheCbRoutine : (standing 0 0).cont.map (·.k) = some 0 ∧
    (standing 1 0).cont.map (·.k) = some 1 := by decide
theorem witness_UnimplementedOpcodesReport : (standing 0 0).cont =
    some ⟨.instr .nop, 0, some 0x0100, some 0x00, none, some 0, some 0, some 0⟩ := by decide

/-- A storing and a silent segment that complete; the flags of the silent one are all kept. -/
theorem witness_frames :
    (view (exec .ldAtHlA (standing 1 0)) fun _ => ()) = some () ∧ storeAddr Instr.ldAtHlA.form (standing 1 0) = some 0 ∧
    (view (exec .ldBC (standing 0 0)) fun _ => ()) = some () ∧ storeAddr Instr.ldBC.form (standing 0 0) = none ∧
    writesFlags Instr.ldBC.form = ⟨false, false, false, false⟩ ∧ Reg8.a ∉ destRegs Instr.ldBC.form ∧
    writesSp Instr.ldBC.form = false := by decide
theorem witness_FrameOfRegisters : (view (exec .ldBC (standing 0 0)) fun t => t.regs.b) = some 0 := by decide
theorem witness_FrameOfFlags : (view (exec .incB (standing 0 0)) fun t => t.regs.flags.h) = some false ∧
    (writesFlags Instr.incB.form).c = false := by decide
theorem witness_FrameOfMemory : (view (exec .pushBc (standing 3 0)) fun t => t.content 0x0000) = some 0 ∧
    storeAddr Instr.pushBc.form (standing 3 0) = some 0x0000 ∧ (0xFFFF : Word) ≠ 0x0000 := by decide
theorem witness_FrameOfControlState : (view (exec .ldAtHlA { standing 1 0 with regs := withHlF 0xFFFF 0 }) fun t => t.ie) =
      some 0 ∧ Instr.ldAtHlA ≠ .di ∧ conditionOf Instr.ldAtHlA.form = none ∧
    storeAddr Instr.ldAtHlA.form { standing 1 0 with regs := withHlF 0xFFFF 0 } = some 0xFFFF := by decide

/-- A base instruction with an operand, and a CB instruction. -/
theorem witness_StepRunsTheDecodedInstruction :
    (prog RegFile.zero [0x3E, 0x05]).fetchesNext ∧
    (prog RegFile.zero [0x3E, 0x05]).sample.peek (prog RegFile.zero [0x3E, 0x05]).sample.pc = 0x3E ∧
    decode [0x3E, 0x05] = .ok (⟨.ldAN8, [0x05]⟩, []) ∧ Instr.ldAN8.opcode = .base 0x3E ∧
    (prog RegFile.zero [0xCB, 0x37]).fetchesNext ∧
    (prog RegFile.zero [0xCB, 0x37]).sample.peek (prog RegFile.zero [0xCB, 0x37]).sample.pc = 0xCB ∧
    decode [0xCB, 0x37] = .ok (⟨.swapA, []⟩, []) ∧ Instr.swapA.opcode = .cb 0x37 := by decide
theorem witness_StepContinuesTheRoutine :
    (standing 1 0).sample.cyclesLeft = 0 + 1 ∧ (standing 1 0).sample.cont.map (·.routine) = some (.instr .nop) ∧
    (mid .prefixCB 1 1 none none none (prog RegFile.zero [0x37])).sample.cont.map (fun c => (c.routine, c.k)) =
      some (.instr .prefixCB, 1) ∧
    (midIsr 1 (some .vblank) (prog RegFile.zero [])).sample.cont.map (·.routine) = some .isr ∧
    (midIsr 1 (some .vblank) (prog RegFile.zero [])).sample.cyclesLeft = 3 + 1 := by decide
theorem witness_OpcodeFetchAndDispatch : (prog RegFile.zero []).haltBug = false ∧
    ({ prog RegFile.zero [] with haltBug := true }).haltBug = true ∧
    ({ prog RegFile.zero [] with delay := true }).delay = true ∧ (prog RegFile.zero []).delay = false := by decide
theorem witness_IdleStepsChangeNothingElse :
    let s := { prog RegFile.zero [] with halted := true, inputs := [⟨false, 0x10⟩] }
    let u := { prog RegFile.zero [] with stopped := true, inputs := [⟨false, 0x0F⟩] }
    s.input.reset = false ∧ s.cyclesLeft = 0 ∧ s.stopped = false ∧ s.halted = true ∧ s.sample.pending = 0 ∧
    u.input.reset = false ∧ u.cyclesLeft = 0 ∧ u.stopped = true ∧ u.sample.stopWakes = false := by decide
theorem witness_WakeUpGoesOnInTheSameStep :
    let s := { prog RegFile.zero [] with halted := true, ie := 0x1F, inputs := [⟨false, 0x10⟩] }
    let u := { prog RegFile.zero [] with stopped := true, inputs := [⟨false, 0x10⟩] }
    s.sample.cyclesLeft = 0 ∧ s.sample.stopped = false ∧ s.sample.halted = true ∧ s.sample.pending ≠ 0 ∧
    s.sample.ime = false ∧ ({ s with ime := true }).sample.ime = true ∧ ({ s with ime := true }).sample.pending ≠ 0 ∧
    u.sample.cyclesLeft = 0 ∧ u.sample.stopped = true ∧ u.sample.halted = false ∧ u.sample.stopWakes = true ∧
    u.sample.ime = false ∧
    ({ u with ime := true, ie := 0x10 }).sample.ime = true ∧ ({ u with ime := true, ie := 0x10 }).sample.pending ≠ 0 ∧
    u.params.stopWake = .ifMask 0x10 := by decide

/-- An enabled request at an awake boundary, SP at the top of memory below IE. -/
def requested : State := { prog (withSpF 0xFFFF 0) [] with ime := true, ie := 0x1F, ifl := 0x10 }

theorem witness_AcceptanceStartsAtTheBoundary :
    requested.sample.cyclesLeft = 0 ∧ requested.sample.stopped = false ∧ requested.sample.halted = false ∧
    requested.sample.ime = true ∧ requested.sample.pending ≠ 0 := by decide
theorem witness_AcceptanceSequenceSegments :
    (∀ k ∈ [0, 1, 2, 3, 4], (midIsr k (some .joypad) requested).standsAt k) ∧
    (midIsr 2 (some .joypad) requested).sp ≠ 0 ∧ (midIsr 2 (some .joypad) (prog RegFile.zero [])).sp = 0 ∧
    (midIsr 4 (some .joypad) requested).pendingVector = some .joypad ∧ (midIsr 4 none requested).pendingVector = none := by
  decide
theorem witness_PriorityEncoderTakesTheLowestBit : priorityVector 0x18 = some .serial ∧ 0 < IntSource.serial.index := by
  decide
theorem witness_InterruptEntryTakesFiveSteps :
    Memory.wf requested.mem = true ∧ requested.cyclesLeft = 0 ∧ requested.halted = false ∧ requested.stopped = false ∧
    requested.inputs = [] ∧ requested.ime = true ∧ requested.pending ≠ 0 ∧
    (∀ a ∈ [requested.sp - 1, requested.sp - 2], a ≠ 0xFF0F ∧ a ≠ 0xFFFF ∧ requested.handler a = some .ram) :=
  have h : ∀ a ∈ [requested.sp - 1, requested.sp - 2], a ≠ 0xFF0F ∧ a ≠ 0xFFFF := by
    rw [List.forall_mem_cons, List.forall_mem_singleton]; decide
  ⟨by decide, rfl, rfl, rfl, rfl, rfl, by decide, fun a ha => ⟨(h a ha).1, (h a ha).2, handler_ram rfl a⟩⟩
theorem witness_RequestsAreSampledFirst :
    let s := { requested with ifl := 0, inputs := [⟨false, 0x01⟩] }
    let u := mid (.ofLdHlReg .a) 1 1 none none none { prog (withHlF 0xFF0F 0) [] with inputs := [⟨false, 0x1F⟩] }
    s.input.reset = false ∧ s.cyclesLeft = 0 ∧ s.stopped = false ∧ s.halted = false ∧ s.ime = true ∧
    s.ie.setWidth 5 &&& (s.ifl ||| s.input.irq) ≠ 0 ∧
    u.input.reset = false ∧ u.cyclesLeft = 0 + 1 ∧ u.cont.map (fun c => (c.k, c.routine)) =
      some (1, .instr (.ofLdHlReg .a)) ∧ u.hl = 0xFF0F := by decide

/-- `LD (HL),A` before its M2, HL at IF, IRQ requested in this step. -/
def storingIf : State :=
  { prog (withHlF 0xFF0F 0) [] with
    inputs := [⟨false, 0x1F⟩]
    cyclesLeft := 1
    cont := some ⟨.instr .ldAtHlA, 1, some 0x0100, some 0x77, none, none, none, none⟩ }

/-- The acceptance sequence before its segment `k`, SP one above IF, IRQ requested in this step. -/
def acceptingAtIf (k : Nat) : State :=
  midIsr k (some .joypad) { prog (withSpF 0xFF10 0) [] with inputs := [⟨false, 0x1F⟩] }

theorem inv_storingIf : Inv storingIf where
  memoryCanonical := rfl
  oneWait := by decide
  waitsAtBoundary := by decide
  haltBugAwake := by decide
  ieStoredBits := by decide
  contExists := by decide
  contLegal := by
    rintro c h
    obtain rfl : ⟨.instr .ldAtHlA, 1, some 0x0100, some 0x77, none, none, none, none⟩ = c := by
      simpa [storingIf] using h
    exact ⟨by decide, by decide, by decide, rfl⟩

/-- The stores to IF: an instruction's, the two pushes and the clear of the acceptance sequence. -/
theorem witness_RequestsAreSampledFirst_stores :
    storingIf.input.reset = false ∧ Inv storingIf ∧
    storingIf.cont.map (·.routine) = some (.instr .ldAtHlA) ∧ storeAddr Instr.ldAtHlA.form storingIf = some 0xFF0F ∧
    (∀ k ∈ [2, 3, 4], (acceptingAtIf k).input.reset = false ∧ (acceptingAtIf k).cyclesLeft = (4 - k) + 1 ∧
      (acceptingAtIf k).cont.map (fun c => (c.routine, c.k)) = some (.isr, k) ∧ (acceptingAtIf k).sp - 1 = 0xFF0F ∧
      (acceptingAtIf k).pendingVector = some .joypad) :=
  ⟨rfl, inv_storingIf, by decide, by decide, by decide⟩

/-- R407: a request of the step is lost to a write of IF, and M5 clears the one it services. -/
theorem test_if_write_wins : view (step storingIf) (fun t => t.ifl) = some 0x00 ∧
    view (step (acceptingAtIf 2)) (fun t => t.ifl) = some 0x01 ∧
    view (step (acceptingAtIf 4)) (fun t => t.ifl) = some 0x0F := by decide
theorem witness_ResetLeavesTheResetState : ({ requested with inputs := [⟨true, 0x1F⟩] }).input.reset = true := by decide

/-! States that meet the invariant, other than the reset state. -/

/-- The invariant of a state at a boundary. -/
theorem inv_of_boundary {s : State} (hm : Memory.wf s.mem = true) (hw : ¬(s.halted = true ∧ s.stopped = true))
    (hc : s.cyclesLeft = 0) (hb : s.haltBug = true → s.halted = false ∧ s.stopped = false ∧ s.ime = false ∧ s.delay = false)
    (hi : s.params.ieUpperStored = false → s.ie &&& 0xE0 = 0) (hn : s.cont = none) : Inv s where
  memoryCanonical := hm
  oneWait := hw
  waitsAtBoundary := fun _ => hc
  haltBugAwake := fun h => ⟨(hb h).1, (hb h).2.1, (hb h).2.2.1, (hb h).2.2.2, hc⟩
  ieStoredBits := hi
  contExists := by simp [hn, hc]
  contLegal := by simp [hn]

/-- RETI before its last segment, IME 0. -/
def inReti : State := mid .reti 3 1 (some 0x03) (some 0x01) none (prog RegFile.zero [])

theorem inv_inReti : Inv { inReti with cont := inReti.cont.map fun c => { c with op := some 0xD9 } } where
  memoryCanonical := rfl
  oneWait := by decide
  waitsAtBoundary := by decide
  haltBugAwake := by decide
  ieStoredBits := by decide
  contExists := by decide
  contLegal := by
    rintro c h
    obtain rfl : ⟨.instr .reti, 3, some 0x0100, some 0xD9, none, some 0x03, some 0x01, none⟩ = c := by
      simpa [inReti, mid] using h
    exact ⟨by decide, by decide, by decide, rfl⟩

theorem witness_EveryStepKeepsTheInvariant :
    Inv { inReti with cont := inReti.cont.map fun c => { c with op := some 0xD9 } } ∧
    view (step { inReti with cont := inReti.cont.map fun c => { c with op := some 0xD9 } }) (fun t => t.ime) = some true :=
  ⟨inv_inReti, by decide⟩
theorem witness_NoConditionStopsTheStep : Inv requested :=
  inv_of_boundary rfl (by decide) rfl (by decide) (by decide) rfl

/-- `JR NZ,FB` with Z set, and `BIT 0,(HL)`. -/
def notTaken : State := prog (withAF 0 0x80) [0x20, 0xFB]
def bitAtHl : State := prog RegFile.zero [0xCB, 0x46]

/-- Halted with IME 1 and Stopped with IME 0, each with a request in the coming step, and Halted without one. -/
def waking : State := { prog RegFile.zero [] with halted := true, ime := true, ie := 0x1F, inputs := [⟨false, 0x10⟩] }
def restarting : State := { prog RegFile.zero [0xCB, 0x46] with stopped := true, inputs := [⟨false, 0x10⟩] }
def resuming : State := { prog (withAF 0 0x80) [0x20, 0xFB] with halted := true, ie := 0x10, ifl := 0x10 }
def waiting : State := { prog RegFile.zero [] with halted := true }

theorem witness_InstructionsTakeTheirDeclaredSteps :
    (Inv notTaken ∧ notTaken.noReset ∧ notTaken.goesOn ∧ notTaken.sample.accepts = false ∧
      decodeBase (notTaken.sample.peek notTaken.sample.pc) ≠ .prefixCB) ∧
    (Inv resuming ∧ resuming.noReset ∧ resuming.goesOn ∧ resuming.sample.accepts = false ∧
      decodeBase (resuming.sample.peek resuming.sample.pc) ≠ .prefixCB) ∧
    (Inv bitAtHl ∧ bitAtHl.noReset ∧ bitAtHl.goesOn ∧ bitAtHl.sample.accepts = false ∧
      decodeBase (bitAtHl.sample.peek bitAtHl.sample.pc) = .prefixCB) ∧
    (Inv restarting ∧ restarting.noReset ∧ restarting.goesOn ∧ restarting.sample.accepts = false ∧
      decodeBase (restarting.sample.peek restarting.sample.pc) = .prefixCB) ∧
    (Inv requested ∧ requested.noReset ∧ requested.goesOn ∧ requested.sample.accepts = true) ∧
    (Inv waking ∧ waking.noReset ∧ waking.goesOn ∧ waking.sample.accepts = true) ∧
    (Inv waiting ∧ waiting.noReset ∧ waiting.idles) :=
  ⟨⟨inv_of_boundary (by decide) (by decide) rfl (by decide) (by decide) rfl, by decide⟩,
    ⟨inv_of_boundary (by decide) (by decide) rfl (by decide) (by decide) rfl, by decide⟩,
    ⟨inv_of_boundary (by decide) (by decide) rfl (by decide) (by decide) rfl, by decide⟩,
    ⟨inv_of_boundary (by decide) (by decide) rfl (by decide) (by decide) rfl, by decide⟩,
    ⟨witness_NoConditionStopsTheStep, by decide⟩,
    ⟨inv_of_boundary (by decide) (by decide) rfl (by decide) (by decide) rfl, by decide⟩,
    ⟨inv_of_boundary (by decide) (by decide) rfl (by decide) (by decide) rfl, by decide⟩⟩
theorem witness_InterruptsBeginOnlyAtBoundaries :
    Inv requested ∧ view (step requested) (fun t => t.cont.map (·.routine)) = some (some .isr) :=
  ⟨witness_NoConditionStopsTheStep, by decide⟩
theorem witness_ImeHasFourWriters :
    Inv { prog RegFile.zero [0xF3] with ime := true } ∧
    view (step { prog RegFile.zero [0xF3] with ime := true }) (fun t => t.ime) = some false ∧
    Inv { prog RegFile.zero [0x00] with delay := true } ∧
    view (step { prog RegFile.zero [0x00] with delay := true }) (fun t => t.ime) = some true :=
  ⟨inv_of_boundary (by decide) (by decide) rfl (by decide) (by decide) rfl, by decide,
    inv_of_boundary (by decide) (by decide) rfl (by decide) (by decide) rfl, by decide⟩
theorem witness_HaltBugDoublesTheNextFetch :
    Inv { prog RegFile.zero [0x3C] with haltBug := true, ie := 1, ifl := 1 } ∧
    ({ prog RegFile.zero [0x3C] with haltBug := true, ie := 1, ifl := 1 }).input.reset = false :=
  ⟨inv_of_boundary (by decide) (by decide) rfl (by decide) (by decide) rfl, by decide⟩
theorem witness_ParametersNeverChange : (view (step requested) fun t => t.clock) = some 1 := by decide
theorem witness_DiagnosticsAreNeverRead : (view (step (prog RegFile.zero [0xD3])) fun t => t.diagLog) =
    some [(0xD3, 0x0100)] := by decide

/-- PUSH AF, POP AF at 0x0100, the stack at the top of memory below IE. -/
def pushPop : State := prog { withAF 0x12 0xF0 with sp := 0xFFFF } [0xF5, 0xF1]

theorem witness_PushThenPopRestoresThePair :
    Inv pushPop ∧ pushPop.inputs = [] ∧ pushPop.cyclesLeft = 0 ∧ pushPop.halted = false ∧ pushPop.stopped = false ∧
    pushPop.ime = false ∧ pushPop.delay = false ∧ pushPop.haltBug = false ∧
    (∀ a ∈ [pushPop.sp - 1, pushPop.sp - 2],
      a ≠ 0xFF0F ∧ a ≠ 0xFFFF ∧ a ≠ pushPop.pc + 1 ∧ pushPop.handler a = some .ram) ∧
    pushPop.handler pushPop.pc ≠ some .device ∧ pushPop.handler (pushPop.pc + 1) ≠ some .device ∧
    decodeBase (pushPop.peek pushPop.pc) = .ofPush .af ∧ decodeBase (pushPop.peek (pushPop.pc + 1)) = .ofPop .af :=
  have h : ∀ a ∈ [pushPop.sp - 1, pushPop.sp - 2], a ≠ 0xFF0F ∧ a ≠ 0xFFFF ∧ a ≠ pushPop.pc + 1 := by
    rw [List.forall_mem_cons, List.forall_mem_singleton]; decide
  ⟨inv_of_boundary (by decide) (by decide) rfl (by decide) (by decide) rfl, rfl, rfl, rfl, rfl, rfl, rfl, rfl,
    fun a ha => ⟨(h a ha).1, (h a ha).2.1, (h a ha).2.2, handler_ram rfl a⟩,
    by simp [handler_ram (s := pushPop) rfl], by simp [handler_ram (s := pushPop) rfl], by decide, by decide⟩

end Sys2Proof.Tests
end

/-! The frame of the flags (R36, R37): which of the four each family's segments can change. -/

namespace Sys2Proof.Machine

/-! ### What each operation leaves of the flags -/

@[simp] theorem State.halt_regs (s : State) : s.halt.regs = s.regs := by
  unfold State.halt; split; · rfl
  split <;> rfl
@[simp] theorem State.dispatchCb_regs (s : State) (v : Byte) : (s.dispatchCb v).regs = s.regs := rfl
theorem RegFile.setStackPair_flags_of_ne (f : RegFile) {q : StackPair} (v : Word) (h : q ≠ .af) :
    (f.setStackPair q v).flags = f.flags := by
  cases q with
  | af => exact absurd rfl h
  | bc | de | hl => rfl
@[simp] theorem inc8_keeps_c (v : Byte) (f : Flags) : (inc8 v f).2.c = f.c := rfl
@[simp] theorem dec8_keeps_c (v : Byte) (f : Flags) : (dec8 v f).2.c = f.c := rfl
@[simp] theorem bitFlags_keeps_c (b : Nat) (v : Byte) (f : Flags) : (bitFlags b v f).c = f.c := rfl
@[simp] theorem daa8_keeps_n (a : Byte) (f : Flags) : (daa8 a f).2.n = f.n := rfl
@[simp] theorem add16_keeps_z (a b : Word) (f : Flags) : (add16 a b f).2.z = f.z := rfl

/-! ### Flags that agree wherever an instruction does not write (R36)

The instructions that write some of the flags and not all write all but C, all but Z, all but N, or N and H alone. -/

/-- From `f` to `g` no flag changes but those that `written` marks. -/
def Flags.Keeps (written f g : Flags) : Prop :=
  (written.z = false → g.z = f.z) ∧ (written.n = false → g.n = f.n) ∧
    (written.h = false → g.h = f.h) ∧ (written.c = false → g.c = f.c)

theorem Flags.Keeps.of_eq {written f g : Flags} (h : g = f) : written.Keeps f g := by
  subst h; exact ⟨fun _ => rfl, fun _ => rfl, fun _ => rfl, fun _ => rfl⟩

theorem Flags.keeps_of_allWritten (f g : Flags) : Flags.Keeps ⟨true, true, true, true⟩ f g := by
  simp [Flags.Keeps]

@[simp] theorem Flags.keeps_allButC_iff {f g : Flags} : Flags.Keeps ⟨true, true, true, false⟩ f g ↔ g.c = f.c := by
  simp [Flags.Keeps]

@[simp] theorem Flags.keeps_allButZ_iff {f g : Flags} : Flags.Keeps ⟨false, true, true, true⟩ f g ↔ g.z = f.z := by
  simp [Flags.Keeps]

@[simp] theorem Flags.keeps_allButN_iff {f g : Flags} : Flags.Keeps ⟨true, false, true, true⟩ f g ↔ g.n = f.n := by
  simp [Flags.Keeps]

@[simp] theorem Flags.keeps_onlyNH_iff {f g : Flags} :
    Flags.Keeps ⟨false, true, true, false⟩ f g ↔ g.z = f.z ∧ g.c = f.c := by
  simp [Flags.Keeps]

/-! ### The families -/

/-- POP leaves the flags alone, unless it writes F as the low half of AF. -/
theorem pop_keeps_flags {q : StackPair} {s t : State} (hq : q ≠ .af) (h : pop q s = .next t) :
    t.regs.flags = s.regs.flags := by
  rcases (pop_next_iff q).1 h with ⟨_, rfl⟩ | ⟨_, rfl⟩ | ⟨_, v, _, rfl⟩
  · rfl
  · simp
  · simp [RegFile.setStackPair_flags_of_ne _ _ hq]

/-- Every family keeps the flags it does not write (R37). The families that write no flag stand first, grouped by the
number of their segments and the locals the last one reads; then those that write some, or all. -/
theorem Form.run_keeps_flags (f : Form) {s t : State} (h : Form.run f s = .next t) :
    (writesFlags f).Keeps s.regs.flags t.regs.flags := by
  cases f with
  | nop | halt | stop | di | ei | ldRegReg | jpHl =>
    simp only [Form.run, nop_next_iff, halt_next_iff, stop_next_iff, di_next_iff, ei_next_iff, ldRegReg_next_iff,
      jpHl_next_iff] at h
    obtain ⟨_, rfl⟩ := h
    exact .of_eq (by simp)
  | undef =>
    obtain ⟨_, op, _, a, _, rfl⟩ := undef_next_iff.1 h
    exact .of_eq rfl
  | prefixCB | ldRegImm | ldRegHl | ldHlReg | ldAInd | ldIndA | ldAHlInc | ldAHlDec | ldHlIncA | ldHlDecA | ldAC | ldCA
  | ldSpHl | incPair | decPair | resReg | setReg =>
    simp only [Form.run, prefixCB_next_iff, ldRegImm_next_iff, ldRegHl_next_iff, ldHlReg_next_iff, ldAInd_next_iff,
      ldIndA_next_iff, ldAHlInc_next_iff, ldAHlDec_next_iff, ldHlIncA_next_iff, ldHlDecA_next_iff, ldAC_next_iff,
      ldCA_next_iff, ldSpHl_next_iff, incPair_next_iff, decPair_next_iff, resReg_next_iff, setReg_next_iff] at h
    rcases h with ⟨_, rfl⟩ | ⟨_, rfl⟩ <;> exact .of_eq (by simp)
  | ldHlImm | ldhAImm | ldhImmA | ldPairImm | jr | jrCc =>
    simp only [Form.run, ldHlImm_next_iff, ldhAImm_next_iff, ldhImmA_next_iff, ldPairImm_next_iff, jr_next_iff,
      jrCc_next_iff] at h
    rcases h with ⟨_, rfl⟩ | ⟨_, rfl⟩ | ⟨_, v, _, rfl⟩ <;> exact .of_eq (by simp)
  | push | rst =>
    simp only [Form.run, push_next_iff, rst_next_iff] at h
    rcases h with ⟨_, rfl⟩ | ⟨_, rfl⟩ | ⟨_, rfl⟩ | ⟨_, rfl⟩ <;> exact .of_eq (by simp)
  | resHl | setHl =>
    simp only [Form.run, resHl_next_iff, setHl_next_iff] at h
    rcases h with ⟨_, rfl⟩ | ⟨_, rfl⟩ | ⟨_, rfl⟩ | ⟨_, v, _, rfl⟩ <;> exact .of_eq (by simp)
  | ldAAbs | ldAbsA | jp | jpCc | ret | reti =>
    simp only [Form.run, ldAAbs_next_iff, ldAbsA_next_iff, jp_next_iff, jpCc_next_iff, returnFrom_next_iff,
      returnFromInterrupt_next_iff] at h
    rcases h with ⟨_, rfl⟩ | ⟨_, rfl⟩ | ⟨_, rfl⟩ | ⟨_, hi, _, lo, _, rfl⟩ <;> exact .of_eq (by simp)
  | ldAbsSp =>
    rcases ldAbsSp_next_iff.1 h with
      ⟨_, rfl⟩ | ⟨_, rfl⟩ | ⟨_, rfl⟩ | ⟨_, hi, _, lo, _, rfl⟩ | ⟨_, hi, _, lo, _, rfl⟩ <;> exact .of_eq (by simp)
  | retCc cc =>
    rcases (retCc_next_iff cc).1 h with
      ⟨_, rfl⟩ | ⟨_, rfl⟩ | ⟨_, rfl⟩ | ⟨_, rfl⟩ | ⟨_, hi, _, lo, _, rfl⟩ <;> exact .of_eq (by simp)
  | call | callCc =>
    simp only [Form.run, call_next_iff, callCc_next_iff] at h
    rcases h with ⟨_, rfl⟩ | ⟨_, rfl⟩ | ⟨_, rfl⟩ | ⟨_, rfl⟩ | ⟨_, rfl⟩ | ⟨_, hi, _, lo, _, rfl⟩ <;>
      exact .of_eq (by simp)
  | pop q =>
    by_cases hq : q = .af
    · subst hq; exact Flags.keeps_of_allWritten ..
    · exact .of_eq (pop_keeps_flags hq h)
  | incReg | decReg =>
    simp only [Form.run, incReg_next_iff, decReg_next_iff] at h
    obtain ⟨_, rfl⟩ := h
    simp [writesFlags]
  | incHl | decHl =>
    simp only [Form.run, incHl_next_iff, decHl_next_iff] at h
    rcases h with ⟨_, rfl⟩ | ⟨_, rfl⟩ | ⟨_, v, _, rfl⟩ <;> simp [writesFlags]
  | bitReg b r =>
    rcases (bitReg_next_iff b r).1 h with ⟨_, rfl⟩ | ⟨_, rfl⟩ <;> simp [writesFlags]
  | bitHl b =>
    rcases (bitHl_next_iff b).1 h with ⟨_, rfl⟩ | ⟨_, rfl⟩ | ⟨_, rfl⟩ <;> simp [writesFlags]
  | addHl p =>
    rcases (addHl_next_iff p).1 h with ⟨_, rfl⟩ | ⟨_, rfl⟩ <;> simp [writesFlags]
  | daa | cpl | scf | ccf =>
    simp only [Form.run, daa_next_iff, cpl_next_iff, scf_next_iff, ccf_next_iff] at h
    obtain ⟨_, rfl⟩ := h
    simp [writesFlags]
  | aluReg | aluHl | aluImm | addSp | ldHlSp | rlca | rrca | rla | rra | rotReg | rotHl =>
    exact Flags.keeps_of_allWritten ..

end Sys2Proof.Machine

namespace Sys2Proof

/-- Settles O34: an instruction runs its family, and each family keeps the flags its rule does not write. -/
theorem frameOfFlags : Obligations.FrameOfFlags := by
  unfold Obligations.FrameOfFlags
  intro i s t h
  rw [Machine.exec_eq_run] at h
  exact Machine.Form.run_keeps_flags i.form h

end Sys2Proof

/-! The 8-bit loads (R200 to R216): the rows of the tables, and the next state of every segment. -/

namespace Sys2Proof.Machine

/-! ### The rows of the operand-indexed loads -/

/-- R200: the row of `LD r,r'` at `01 dst src`. -/
theorem ofLdRegReg_hasEntry (dst src : Reg8) :
    (Instr.ofLdRegReg dst src).hasEntry (.base (0x40 + 8 * dst.field + src.field)) 1 1 := by
  cases dst <;> cases src <;> decide

/-- R201: the row of `LD r,n8` at `00 dst 110`. -/
theorem ofLdRegImm_hasEntry (dst : Reg8) :
    (Instr.ofLdRegImm dst).hasEntry (.base (0x06 + 8 * dst.field)) 2 2 := by
  cases dst <;> decide

/-- R202: the row of `LD r,(HL)` at `01 dst 110`. -/
theorem ofLdRegHl_hasEntry (dst : Reg8) :
    (Instr.ofLdRegHl dst).hasEntry (.base (0x46 + 8 * dst.field)) 2 2 := by
  cases dst <;> decide

/-- R203: the row of `LD (HL),r` at `01 110 src`. -/
theorem ofLdHlReg_hasEntry (src : Reg8) :
    (Instr.ofLdHlReg src).hasEntry (.base (0x70 + src.field)) 2 2 := by
  cases src <;> decide

/-- R205: the rows of `LD A,(BC)` and `LD A,(DE)`. -/
theorem ofLdAInd_hasEntry (p : IndPair) : (Instr.ofLdAInd p).hasEntry (.base (0x0A + 16 * p.field)) 2 2 := by
  cases p <;> decide

/-- R206: the rows of `LD (BC),A` and `LD (DE),A`. -/
theorem ofLdIndA_hasEntry (p : IndPair) : (Instr.ofLdIndA p).hasEntry (.base (0x02 + 16 * p.field)) 2 2 := by
  cases p <;> decide

/-! ### The segments

Each follows from the inversion of its family's schedule: from a state that stands at a segment, that segment runs. -/

/-- The address of the high page (R213 to R216), which the model writes as two halves, as a sum. -/
theorem highPage_eq_add (n : Byte) : highPage n = 0xFF00 + n.setWidth 16 := by
  apply BitVec.eq_of_toNat_eq
  have := n.isLt
  simp only [highPage, joinBytes, BitVec.toNat_append, BitVec.toNat_add, BitVec.toNat_setWidth, BitVec.reduceToNat]
  rw [← Nat.shiftLeft_add_eq_or_of_lt n.isLt]
  omega

/-- R208, R210: the pair that is stepped after a store through HL is the HL of before the store, which changes no
register. -/
theorem ldHlIncA_M2 {s : State} (h : s.standsAt 1) :
    ldHlIncA s = .next ((s.memWrite s.hl s.regs.a).setPair .hl (s.hl + 1)) := by
  have m2 := ldHlIncA_next_iff.2 (.inr ⟨h, rfl⟩)
  rwa [State.memWrite_hl] at m2

theorem ldHlDecA_M2 {s : State} (h : s.standsAt 1) :
    ldHlDecA s = .next ((s.memWrite s.hl s.regs.a).setPair .hl (s.hl - 1)) := by
  have m2 := ldHlDecA_next_iff.2 (.inr ⟨h, rfl⟩)
  rwa [State.memWrite_hl] at m2

theorem ldhAImm_M3 {s : State} {n : Byte} (h : s.standsAt 2) (hn : s.holdsTmp n) :
    ldhAImm s = .next ((s.noteRead (0xFF00 + n.setWidth 16)).setReg .a (s.peek (0xFF00 + n.setWidth 16))) := by
  rw [← highPage_eq_add]
  exact ldhAImm_next_iff.2 (.inr (.inr ⟨h, n, hn, rfl⟩))

theorem ldhImmA_M3 {s : State} {n : Byte} (h : s.standsAt 2) (hn : s.holdsTmp n) :
    ldhImmA s = .next (s.memWrite (0xFF00 + n.setWidth 16) s.regs.a) := by
  rw [← highPage_eq_add]
  exact ldhImmA_next_iff.2 (.inr (.inr ⟨h, n, hn, rfl⟩))

theorem ldAC_M2 {s : State} (h : s.standsAt 1) :
    ldAC s =
      .next ((s.noteRead (0xFF00 + s.regs.c.setWidth 16)).setReg .a (s.peek (0xFF00 + s.regs.c.setWidth 16))) := by
  rw [← highPage_eq_add]
  exact ldAC_next_iff.2 (.inr ⟨h, rfl⟩)

theorem ldCA_M2 {s : State} (h : s.standsAt 1) :
    ldCA s = .next (s.memWrite (0xFF00 + s.regs.c.setWidth 16) s.regs.a) := by
  rw [← highPage_eq_add]
  exact ldCA_next_iff.2 (.inr ⟨h, rfl⟩)

end Sys2Proof.Machine

namespace Sys2Proof

open Sys2Proof.Machine

/-- Settles O12: each instruction is in its row, runs its family, and the family's schedule has these segments. -/
theorem registerAndHlLoads : Obligations.RegisterAndHlLoads := by
  unfold Obligations.RegisterAndHlLoads
  simp only [exec_ofLdRegReg, exec_ofLdRegImm, exec_ofLdRegHl, exec_ofLdHlReg, exec_ldAtHlN8]
  refine ⟨fun dst src => ⟨ofLdRegReg_hasEntry dst src, fun s m1 => ?_⟩,
    fun dst => ⟨ofLdRegImm_hasEntry dst, fun s => ⟨fun m1 => ?_, fun m2 => ?_⟩⟩,
    fun dst => ⟨ofLdRegHl_hasEntry dst, fun s => ⟨fun m1 => ?_, fun m2 => ?_⟩⟩,
    fun src => ⟨ofLdHlReg_hasEntry src, fun s => ⟨fun m1 => ?_, fun m2 => ?_⟩⟩,
    by decide, fun s => ⟨fun m1 => ?_, fun m2 => ?_, fun v m3 hv => ?_⟩⟩
  · exact (ldRegReg_next_iff dst src).2 ⟨m1, rfl⟩
  · exact (ldRegImm_next_iff dst).2 (.inl ⟨m1, rfl⟩)
  · exact (ldRegImm_next_iff dst).2 (.inr ⟨m2, rfl⟩)
  · exact (ldRegHl_next_iff dst).2 (.inl ⟨m1, rfl⟩)
  · exact (ldRegHl_next_iff dst).2 (.inr ⟨m2, rfl⟩)
  · exact (ldHlReg_next_iff src).2 (.inl ⟨m1, rfl⟩)
  · exact (ldHlReg_next_iff src).2 (.inr ⟨m2, rfl⟩)
  · exact ldHlImm_next_iff.2 (.inl ⟨m1, rfl⟩)
  · exact ldHlImm_next_iff.2 (.inr (.inl ⟨m2, rfl⟩))
  · exact ldHlImm_next_iff.2 (.inr (.inr ⟨m3, v, hv, rfl⟩))

/-- Settles O13: the rows, and per family M1 idle and M2 the access; a store leaves HL, so HL is stepped from its value
before the access. -/
theorem accumulatorLoadsThroughPairs : Obligations.AccumulatorLoadsThroughPairs := by
  unfold Obligations.AccumulatorLoadsThroughPairs
  simp only [exec_ofLdAInd, exec_ofLdIndA, exec_ldAAtHlInc, exec_ldAAtHlDec, exec_ldAtHlIncA, exec_ldAtHlDecA]
  refine ⟨fun p => ⟨ofLdAInd_hasEntry p, ofLdIndA_hasEntry p, fun s => ⟨fun m1 => ⟨?_, ?_⟩, fun m2 => ⟨?_, ?_⟩⟩⟩,
    by decide, by decide, by decide, by decide,
    fun s => ⟨fun m1 => ⟨?_, ?_, ?_, ?_⟩, fun m2 => ⟨?_, ?_, ldHlIncA_M2 m2, ldHlDecA_M2 m2⟩⟩⟩
  · exact (ldAInd_next_iff p).2 (.inl ⟨m1, rfl⟩)
  · exact (ldIndA_next_iff p).2 (.inl ⟨m1, rfl⟩)
  · exact (ldAInd_next_iff p).2 (.inr ⟨m2, rfl⟩)
  · exact (ldIndA_next_iff p).2 (.inr ⟨m2, rfl⟩)
  · exact ldAHlInc_next_iff.2 (.inl ⟨m1, rfl⟩)
  · exact ldAHlDec_next_iff.2 (.inl ⟨m1, rfl⟩)
  · exact ldHlIncA_next_iff.2 (.inl ⟨m1, rfl⟩)
  · exact ldHlDecA_next_iff.2 (.inl ⟨m1, rfl⟩)
  · exact ldAHlInc_next_iff.2 (.inr ⟨m2, rfl⟩)
  · exact ldAHlDec_next_iff.2 (.inr ⟨m2, rfl⟩)

/-- Settles O14: the rows, M1 idle, the segments that fetch the address, and the access at the address they leave. -/
theorem absoluteAndHighPageLoads : Obligations.AbsoluteAndHighPageLoads := by
  unfold Obligations.AbsoluteAndHighPageLoads
  simp only [List.forall_mem_cons, List.not_mem_nil, false_imp_iff, implies_true, and_true,
    exec_ldAAtN16, exec_ldAtN16A, exec_ldhAAtN8, exec_ldhAtN8A, exec_ldAAtC, exec_ldAtCA]
  refine ⟨by decide, by decide, by decide, by decide, by decide, by decide,
    ⟨fun s m1 => ?_, fun s m1 => ?_, fun s m1 => ?_, fun s m1 => ?_, fun s m1 => ?_, fun s m1 => ?_⟩,
    ⟨fun s => ⟨fun m2 => ?_, fun m3 => ?_⟩, fun s => ⟨fun m2 => ?_, fun m3 => ?_⟩⟩,
    ⟨fun s m2 => ?_, fun s m2 => ?_⟩,
    fun s lo hi m4 hlo hhi => ⟨?_, ?_⟩,
    fun s n m3 hn => ⟨ldhAImm_M3 m3 hn, ldhImmA_M3 m3 hn⟩,
    fun s m2 => ⟨ldAC_M2 m2, ldCA_M2 m2⟩⟩
  · exact ldAAbs_next_iff.2 (.inl ⟨m1, rfl⟩)
  · exact ldAbsA_next_iff.2 (.inl ⟨m1, rfl⟩)
  · exact ldhAImm_next_iff.2 (.inl ⟨m1, rfl⟩)
  · exact ldhImmA_next_iff.2 (.inl ⟨m1, rfl⟩)
  · exact ldAC_next_iff.2 (.inl ⟨m1, rfl⟩)
  · exact ldCA_next_iff.2 (.inl ⟨m1, rfl⟩)
  · exact ldAAbs_next_iff.2 (.inr (.inl ⟨m2, rfl⟩))
  · exact ldAAbs_next_iff.2 (.inr (.inr (.inl ⟨m3, rfl⟩)))
  · exact ldAbsA_next_iff.2 (.inr (.inl ⟨m2, rfl⟩))
  · exact ldAbsA_next_iff.2 (.inr (.inr (.inl ⟨m3, rfl⟩)))
  · exact ldhAImm_next_iff.2 (.inr (.inl ⟨m2, rfl⟩))
  · exact ldhImmA_next_iff.2 (.inr (.inl ⟨m2, rfl⟩))
  · exact ldAAbs_next_iff.2 (.inr (.inr (.inr ⟨m4, hi, hhi, lo, hlo, rfl⟩)))
  · exact ldAbsA_next_iff.2 (.inr (.inr (.inr ⟨m4, hi, hhi, lo, hlo, rfl⟩)))

end Sys2Proof

/-! PUSH and POP (R236, R237): the rows of the tables, F as a byte, and the next state of every segment. -/

namespace Sys2Proof.Machine

/-! ### The rows -/

/-- R236: the rows of `PUSH qq`, at `11 qq 0101`. -/
theorem ofPush_hasEntry (q : StackPair) : (Instr.ofPush q).hasEntry (.base (0xC5 + 16 * q.field)) 4 4 := by
  cases q <;> decide

/-- R237: the rows of `POP qq`, at `11 qq 0001`. -/
theorem ofPop_hasEntry (q : StackPair) : (Instr.ofPop q).hasEntry (.base (0xC1 + 16 * q.field)) 3 3 := by
  cases q <;> decide

/-! ### The operands -/

theorem halvesAreTheBytes : HalvesAreTheBytes :=
  fun _ hi lo => ⟨rfl, rfl, joinBytes_eq_or hi lo⟩

/-- R35: F's bits 7 to 4 are bits 7 to 4 of a word written to AF. -/
theorem Flags.ofByte_lowByte (v : Word) :
    Flags.ofByte (lowByte v) = ⟨v.getLsbD 7, v.getLsbD 6, v.getLsbD 5, v.getLsbD 4⟩ := by
  simp [Flags.ofByte, lowByte]

theorem RegFile.setStackPair_af (f : RegFile) (v : Word) :
    f.setStackPair .af v =
      { f with a := highByte v, flags := ⟨v.getLsbD 7, v.getLsbD 6, v.getLsbD 5, v.getLsbD 4⟩ } := by
  rw [← Flags.ofByte_lowByte]; rfl

theorem RegFile.setStackPair_af_join (f : RegFile) (hi lo : Byte) :
    f.setStackPair .af (joinBytes hi lo) = { f with a := hi, flags := Flags.ofByte lo } := by
  simp [RegFile.setStackPair]

theorem stackPairsAreTheirHalves : StackPairsAreTheirHalves :=
  ⟨fun f v => ⟨joinBytes_eq_or f.b f.c, joinBytes_eq_or f.d f.e, joinBytes_eq_or f.h f.l,
    joinBytes_eq_or f.a f.flags.toByte, rfl, rfl, rfl, f.setStackPair_af v⟩, fun _ _ _ => rfl⟩

/-! ### The segments that step SP

The bus access of a segment leaves SP, so SP is stepped from its value before the access. -/

theorem push_M3 (q : StackPair) {s : State} (h : s.standsAt 2) :
    push q s = .next ((s.memWrite s.sp (highByte (s.regs.stackPair q))).setSp (s.sp - 1)) := by
  have m3 := (push_next_iff q).2 (.inr (.inr (.inl ⟨h, rfl⟩)))
  rwa [State.memWrite_sp] at m3

theorem pop_M2 (q : StackPair) {s : State} (h : s.standsAt 1) :
    pop q s = .next (((s.noteRead s.sp).setLo (s.peek s.sp)).setSp (s.sp + 1)) := by
  have m2 := (pop_next_iff q).2 (.inr (.inl ⟨h, rfl⟩))
  rwa [State.noteRead_sp] at m2

theorem pop_M3 (q : StackPair) {s : State} {lo : Byte} (h : s.standsAt 2) (hlo : s.holdsLo lo) :
    pop q s =
      .next ((((s.noteRead s.sp).setHi (s.peek s.sp)).setSp (s.sp + 1)).setStackPair q
        (joinBytes (s.peek s.sp) lo)) := by
  have m3 := (pop_next_iff q).2 (.inr (.inr ⟨h, lo, hlo, rfl⟩))
  rwa [State.noteRead_sp] at m3

end Sys2Proof.Machine

namespace Sys2Proof

open Sys2Proof.Machine

/-- Settles O16: the halves of the pairs, the rows, the segments of each schedule, and F as the low half of AF. -/
theorem pushAndPop : Obligations.PushAndPop := by
  unfold Obligations.PushAndPop
  simp only [exec_ofPush, exec_ofPop]
  refine ⟨halvesAreTheBytes, stackPairsAreTheirHalves, fun q => ⟨ofPush_hasEntry q, ofPop_hasEntry q, fun s =>
    ⟨fun m1 => ⟨?_, ?_⟩, fun m2 => ⟨?_, pop_M2 q m2⟩, push_M3 q, fun m4 => ?_, fun lo => pop_M3 q,
      fun f => rfl, RegFile.setStackPair_af_join⟩⟩⟩
  · exact (push_next_iff q).2 (.inl ⟨m1, rfl⟩)
  · exact (pop_next_iff q).2 (.inl ⟨m1, rfl⟩)
  · exact (push_next_iff q).2 (.inr (.inl ⟨m2, rfl⟩))
  · exact (push_next_iff q).2 (.inr (.inr (.inr ⟨m4, rfl⟩)))

end Sys2Proof

/-! The 8-bit arithmetic and logic (R246, R250 to R265): the carries behind H, INC, DEC and DAA in arithmetic, the rows
of the tables, and the next state of every segment. -/

namespace Sys2Proof.Machine

/-! ### Sums and differences

`res ^ a ^ b` is the carry into each bit of a sum (R245). A difference is the sum with the complement, where a borrow
is the carry that fails to come. -/

theorem sub_sub_bit_eq {w : Nat} (x y : BitVec w) (c : Bool) :
    x - y - bit w c = x + ~~~y + bit w (!c) := by
  have one : bit w true = 1#w := by
    simp only [bit, BitVec.ofBool_true]
    exact BitVec.setWidth_ofNat_one_eq_ofNat_one_of_lt (by decide)
  have zero : bit w false = 0#w := BitVec.setWidth_zero _ _
  rw [BitVec.sub_eq_add_neg x y, BitVec.neg_eq_not_add, ← BitVec.add_assoc]
  cases c <;> simp [one, zero]

theorem getLsbD_add_xor {w i : Nat} (hi : i < w) (x y : BitVec w) (c : Bool) :
    ((x + y + bit w c) ^^^ (x ^^^ y)).getLsbD i = BitVec.carry i x y c := by
  rw [BitVec.getLsbD_xor, BitVec.getLsbD_xor, bit, BitVec.getLsbD_add_add_bool hi]
  cases x.getLsbD i <;> cases y.getLsbD i <;> simp

theorem getLsbD_sub_xor {w i : Nat} (hi : i < w) (x y : BitVec w) (c : Bool) :
    ((x - y - bit w c) ^^^ (x ^^^ y)).getLsbD i = !BitVec.carry i x (~~~y) (!c) := by
  rw [sub_sub_bit_eq, ← getLsbD_add_xor hi]
  simp [hi]

theorem add8_fst (a b : Byte) (cin : Bool) : (add8 a b cin).1 = a + b + bit 8 cin := by
  simp [add8, bit, BitVec.setWidth_add]

theorem sub8_fst (a b : Byte) (cin : Bool) : (sub8 a b cin).1 = a - b - bit 8 cin := by
  simp only [sub8]
  rw [sub_sub_bit_eq, sub_sub_bit_eq]
  simp [bit, BitVec.setWidth_add]

/-- R245: H of a sum is the carry out of the low nibble. -/
theorem add8_h (a b : Byte) (cin : Bool) :
    (add8 a b cin).2.h = decide (16 ≤ a.toNat % 16 + b.toNat % 16 + cin.toNat) := by
  have h := getLsbD_add_xor (w := 9) (i := 4) (by decide) (a.setWidth 9) (b.setWidth 9) cin
  simp only [add8, h, BitVec.carry, BitVec.toNat_setWidth]
  simp

/-- R245: H of a difference is the borrow into the low nibble. -/
theorem sub8_h (a b : Byte) (cin : Bool) :
    (sub8 a b cin).2.h = decide (a.toNat % 16 < b.toNat % 16 + cin.toNat) := by
  have h := getLsbD_sub_xor (w := 9) (i := 4) (by decide) (a.setWidth 9) (b.setWidth 9) cin
  simp only [sub8, h, BitVec.carry, BitVec.toNat_setWidth, BitVec.toNat_not, ← decide_not, decide_eq_decide]
  have := a.isLt
  have := b.isLt
  cases cin <;> simp <;> omega

/-- The low nibble as a remainder. -/
theorem toNat_and_0F (v : Byte) : (v &&& 0x0F).toNat = v.toNat % 16 := by
  rw [BitVec.toNat_and]
  exact Nat.and_two_pow_sub_one_eq_mod v.toNat 4

/-- R258: INC adds 1; the low nibble carries exactly from 0xF. -/
theorem inc8_eq (v : Byte) (f : Flags) :
    inc8 v f = (v + 1, ⟨decide (v + 1 = 0), false, decide (v &&& 0x0F = 0x0F), f.c⟩) := by
  have value : (add8 v 1 false).1 = v + 1 := by simp [add8_fst, bit]
  have half : (add8 v 1 false).2.h = decide (v &&& 0x0F = 0x0F) := by
    rw [add8_h, decide_eq_decide, ← BitVec.toNat_inj, toNat_and_0F]
    simp; omega
  calc inc8 v f = ((add8 v 1 false).1, ⟨decide ((add8 v 1 false).1 = 0), false, (add8 v 1 false).2.h, f.c⟩) := rfl
    _ = _ := by rw [value, half]

/-- R260: DEC takes off 1; the low nibble borrows exactly from 0. -/
theorem dec8_eq (v : Byte) (f : Flags) :
    dec8 v f = (v - 1, ⟨decide (v - 1 = 0), true, decide (v &&& 0x0F = 0x00), f.c⟩) := by
  have value : (sub8 v 1 false).1 = v - 1 := by simp [sub8_fst, bit]
  have half : (sub8 v 1 false).2.h = decide (v &&& 0x0F = 0x00) := by
    rw [sub8_h, decide_eq_decide, ← BitVec.toNat_inj, toNat_and_0F]
    simp
  calc dec8 v f = ((sub8 v 1 false).1, ⟨decide ((sub8 v 1 false).1 = 0), true, (sub8 v 1 false).2.h, f.c⟩) := rfl
    _ = _ := by rw [value, half]

/-! ### DAA -/

/-- R262 after a subtraction. -/
theorem daa8_fst_of_sub (a : Byte) {f : Flags} (hn : f.n = true) :
    (daa8 a f).1 = a - (if f.c then 0x60 else 0) - (if f.h then 0x06 else 0) := by
  cases hc : f.c <;> cases hh : f.h <;> simp [daa8, hn, hc, hh]

/-- R262 after an addition: adding 0x60 leaves the low nibble, so both corrections can be told from A itself. -/
theorem daa8_fst_of_add (a : Byte) {f : Flags} (hn : f.n = false) :
    (daa8 a f).1 = a + (if f.c ∨ 0x99 < a.toNat then 0x60 else 0) + (if f.h ∨ 0x09 < a.toNat % 16 then 0x06 else 0) := by
  have nibble : (a + 0x60).toNat % 16 = a.toNat % 16 := by rw [BitVec.toNat_add]; simp; omega
  simp only [daa8, hn, if_pos]
  by_cases high : f.c ∨ 0x99 < a.toNat <;> simp only [high, if_true, if_false, toNat_and_0F, nibble] <;> split <;> simp

/-- R262: C is set by the high correction after an addition, and kept after a subtraction. -/
theorem daa8_snd (a : Byte) (f : Flags) :
    (daa8 a f).2 = ⟨decide ((daa8 a f).1 = 0), f.n, false, if f.n then f.c else f.c || decide (0x99 < a.toNat)⟩ := by
  have carry : (daa8 a f).2.c = if f.n then f.c else f.c || decide (0x99 < a.toNat) := by
    cases hn : f.n
    · by_cases high : f.c ∨ 0x99 < a.toNat
      · simp only [daa8, hn, high, if_true]
        split <;> simpa using high
      · obtain ⟨hc, ha⟩ := not_or.1 high
        simp only [daa8, hn, high, if_true, if_false]
        split <;> simp [ha]
    · simp [daa8, hn]
  rw [← carry]; rfl

/-- `daa8` in unbounded integers, after a subtraction. -/
theorem daa8_toInt_of_sub (a : Byte) {f : Flags} (hn : f.n = true) :
    ((daa8 a f).1.toNat : Int) =
      ((a.toNat : Int) - (if f.c then 0x60 else 0) - (if f.h then 0x06 else 0)) % 256 := by
  have := a.isLt
  rw [daa8_fst_of_sub a hn]
  cases f.c <;> cases f.h <;> simp [BitVec.toNat_sub] <;> omega

/-- `daa8` in unbounded integers, after an addition. -/
theorem daa8_toInt_of_add (a : Byte) {f : Flags} (hn : f.n = false) :
    ((daa8 a f).1.toNat : Int) = ((a.toNat : Int) + (if f.c ∨ 0x99 < a.toNat then 0x60 else 0) +
      (if f.h ∨ 0x09 < a.toNat % 16 then 0x06 else 0)) % 256 := by
  rw [daa8_fst_of_add a hn]
  split <;> split <;> simp [BitVec.toNat_add]
  omega

/-! ### The rows -/

/-- R246: the rows of the accumulator operations on a register, at `10 ooo src`. -/
theorem ofAluReg_hasEntry (op : AluOp) (r : Reg8) :
    (Instr.ofAluReg op r).hasEntry (.base (0x80 + 8 * op.field + r.field)) 1 1 := by
  cases op <;> cases r <;> decide

/-- R246: the rows of the accumulator operations on `(HL)`, at `10 ooo 110`. -/
theorem ofAluHl_hasEntry (op : AluOp) : (Instr.ofAluHl op).hasEntry (.base (0x86 + 8 * op.field)) 2 2 := by
  cases op <;> decide

/-- R246: the rows of the accumulator operations on `n8`, at `11 ooo 110`. -/
theorem ofAluImm_hasEntry (op : AluOp) : (Instr.ofAluImm op).hasEntry (.base (0xC6 + 8 * op.field)) 2 2 := by
  cases op <;> decide

/-- R258: the rows of `INC r`, at `00 dst 100`. -/
theorem ofIncReg_hasEntry (r : Reg8) : (Instr.ofIncReg r).hasEntry (.base (0x04 + 8 * r.field)) 1 1 := by
  cases r <;> decide

/-- R260: the rows of `DEC r`, at `00 dst 101`. -/
theorem ofDecReg_hasEntry (r : Reg8) : (Instr.ofDecReg r).hasEntry (.base (0x05 + 8 * r.field)) 1 1 := by
  cases r <;> decide

/-! ### The segments that write a result -/

theorem incReg_M1 (r : Reg8) {s : State} (h : s.standsAt 0) :
    incReg r s = .next ((s.setReg r (s.reg r + 1)).setFlags
      ⟨decide (s.reg r + 1 = 0), false, decide (s.reg r &&& 0x0F = 0x0F), s.regs.flags.c⟩) := by
  have m1 := (incReg_next_iff r).2 ⟨h, rfl⟩
  rwa [inc8_eq] at m1

theorem decReg_M1 (r : Reg8) {s : State} (h : s.standsAt 0) :
    decReg r s = .next ((s.setReg r (s.reg r - 1)).setFlags
      ⟨decide (s.reg r - 1 = 0), true, decide (s.reg r &&& 0x0F = 0x00), s.regs.flags.c⟩) := by
  have m1 := (decReg_next_iff r).2 ⟨h, rfl⟩
  rwa [dec8_eq] at m1

theorem incHl_M3 {s : State} {v : Byte} (h : s.standsAt 2) (hv : s.holdsTmp v) :
    incHl s = .next ((s.memWrite s.hl (v + 1)).setFlags
      ⟨decide (v + 1 = 0), false, decide (v &&& 0x0F = 0x0F), s.regs.flags.c⟩) := by
  have m3 := incHl_next_iff.2 (.inr (.inr ⟨h, v, hv, rfl⟩))
  rwa [inc8_eq] at m3

theorem decHl_M3 {s : State} {v : Byte} (h : s.standsAt 2) (hv : s.holdsTmp v) :
    decHl s = .next ((s.memWrite s.hl (v - 1)).setFlags
      ⟨decide (v - 1 = 0), true, decide (v &&& 0x0F = 0x00), s.regs.flags.c⟩) := by
  have m3 := decHl_next_iff.2 (.inr (.inr ⟨h, v, hv, rfl⟩))
  rwa [dec8_eq] at m3

end Sys2Proof.Machine

namespace Sys2Proof

open Sys2Proof.Machine

/-- Settles O17: the rows, M1 idle where an operand byte is read in M2, and the operation on A in the last segment. -/
theorem accumulatorOperations : Obligations.AccumulatorOperations := by
  unfold Obligations.AccumulatorOperations
  simp only [exec_ofAluReg, exec_ofAluHl, exec_ofAluImm]
  refine ⟨fun op r => ⟨ofAluReg_hasEntry op r, fun s m1 => ?_⟩,
    fun op => ⟨ofAluHl_hasEntry op, ofAluImm_hasEntry op, fun s => ⟨fun m1 => ⟨?_, ?_⟩, fun m2 => ⟨?_, ?_⟩⟩⟩,
    fun a v f => ⟨rfl, rfl, rfl, rfl, rfl, rfl, rfl, rfl⟩⟩
  · exact (aluReg_next_iff op r).2 ⟨m1, rfl⟩
  · exact (aluHl_next_iff op).2 (.inl ⟨m1, rfl⟩)
  · exact (aluImm_next_iff op).2 (.inl ⟨m1, rfl⟩)
  · exact (aluHl_next_iff op).2 (.inr ⟨m2, rfl⟩)
  · exact (aluImm_next_iff op).2 (.inr ⟨m2, rfl⟩)

/-- Settles O18: the rows, the segments of each schedule, and INC and DEC in arithmetic (`inc8_eq`, `dec8_eq`). -/
theorem incrementAndDecrementBytes : Obligations.IncrementAndDecrementBytes := by
  unfold Obligations.IncrementAndDecrementBytes
  simp only [exec_ofIncReg, exec_ofDecReg, exec_incAtHl, exec_decAtHl]
  refine ⟨fun r => ⟨ofIncReg_hasEntry r, ofDecReg_hasEntry r, fun s m1 => ⟨incReg_M1 r m1, decReg_M1 r m1⟩⟩,
    by decide, by decide, fun s => ⟨fun m1 => ⟨?_, ?_⟩, fun m2 => ⟨?_, ?_⟩,
      fun v m3 hv => ⟨incHl_M3 m3 hv, decHl_M3 m3 hv⟩⟩⟩
  · exact incHl_next_iff.2 (.inl ⟨m1, rfl⟩)
  · exact decHl_next_iff.2 (.inl ⟨m1, rfl⟩)
  · exact incHl_next_iff.2 (.inr (.inl ⟨m2, rfl⟩))
  · exact decHl_next_iff.2 (.inr (.inl ⟨m2, rfl⟩))

/-- Settles O19: the rows, the one segment of each, and DAA in unbounded integers: the high correction, a multiple of
16, leaves the digit that the low correction asks about. -/
theorem decimalAdjustAndFlagOperations : Obligations.DecimalAdjustAndFlagOperations := by
  unfold Obligations.DecimalAdjustAndFlagOperations
  simp only [exec_daa, exec_cpl, exec_scf, exec_ccf]
  refine ⟨by decide, by decide, by decide, by decide, fun s m1 => ⟨?_, ?_, ?_, ?_⟩, fun a f => ⟨?_, daa8_snd a f⟩⟩
  · exact daa_next_iff.2 ⟨m1, rfl⟩
  · exact cpl_next_iff.2 ⟨m1, rfl⟩
  · exact scf_next_iff.2 ⟨m1, rfl⟩
  · exact ccf_next_iff.2 ⟨m1, rfl⟩
  · cases hn : f.n
    · have digit : (9 < (a.toNat : Int) % 16 ↔ 9 < a.toNat % 16) ∧
          (9 < ((a.toNat : Int) + 96) % 16 ↔ 9 < a.toNat % 16) := by omega
      rw [daa8_toInt_of_add a hn]
      by_cases high : f.c ∨ 0x99 < a.toNat <;> simp only [Bool.false_eq_true, high, if_true, if_false, digit] <;>
        split <;> simp
    · rw [daa8_toInt_of_sub a hn]
      cases f.c <;> cases f.h <;> simp

end Sys2Proof

/-! The sums of SP and a displacement (R283, R284): the signed sum in unbounded integers, the carries of the low byte as
remainders, and the next state of every segment. -/

namespace Sys2Proof.Machine

/-! ### The signed sum and the low digits -/

/-- R8: adding a sign-extended byte is adding its signed value, modulo 65536. -/
theorem add_signExtend_eq_ofInt (a : Word) (e : Byte) :
    a + e.signExtend 16 = BitVec.ofInt 16 (a.toNat + e.toInt) := by
  rw [BitVec.ofInt_add, BitVec.ofInt_natCast, BitVec.ofNat_toNat, BitVec.setWidth_eq]
  rfl

/-- The low `k` bits as a remainder. -/
theorem toNat_and_of_toNat_eq_mask {w k : Nat} (v : BitVec w) {m : BitVec w} (hm : m.toNat = 2 ^ k - 1) :
    (v &&& m).toNat = v.toNat % 2 ^ k := by
  rw [BitVec.toNat_and, hm, Nat.and_two_pow_sub_one_eq_mod]

/-- R283, R284: the sum is signed; H and C are those of the unsigned add of the low bytes. -/
theorem addSigned_eq (sp : Word) (e : Byte) :
    addSigned sp e = (BitVec.ofInt 16 (sp.toNat + e.toInt),
      ⟨false, false, decide (0x0F < sp.toNat % 16 + e.toNat % 16), decide (0xFF < sp.toNat % 256 + e.toNat)⟩) := by
  have nibble : (sp &&& 0x000F).toNat = sp.toNat % 16 := toNat_and_of_toNat_eq_mask (k := 4) sp rfl
  have byte : (sp &&& 0x00FF).toNat = sp.toNat % 256 := toNat_and_of_toNat_eq_mask (k := 8) sp rfl
  rw [addSigned, add_signExtend_eq_ofInt, nibble, byte, toNat_and_0F]

/-! ### The segments that write the sum -/

theorem addSp_M4 {s : State} {e : Byte} (h : s.standsAt 3) (he : s.holdsTmp e) :
    addSp s = .next ((s.setSp (BitVec.ofInt 16 (s.sp.toNat + e.toInt))).setFlags
      ⟨false, false, decide (0x0F < s.sp.toNat % 16 + e.toNat % 16),
        decide (0xFF < s.sp.toNat % 256 + e.toNat)⟩) := by
  have m4 := addSp_next_iff.2 (.inr (.inr (.inr ⟨h, e, he, rfl⟩)))
  rwa [addSigned_eq] at m4

theorem ldHlSp_M3 {s : State} {e : Byte} (h : s.standsAt 2) (he : s.holdsTmp e) :
    ldHlSp s = .next ((s.setPair .hl (BitVec.ofInt 16 (s.sp.toNat + e.toInt))).setFlags
      ⟨false, false, decide (0x0F < s.sp.toNat % 16 + e.toNat % 16),
        decide (0xFF < s.sp.toNat % 256 + e.toNat)⟩) := by
  have m3 := ldHlSp_next_iff.2 (.inr (.inr ⟨h, e, he, rfl⟩))
  rwa [addSigned_eq] at m3

end Sys2Proof.Machine

namespace Sys2Proof

open Sys2Proof.Machine

/-- Settles O21: the rows, the segments of each schedule, and the sum and its flags in arithmetic (`addSigned_eq`). -/
theorem stackPointerPlusDisplacement : Obligations.StackPointerPlusDisplacement := by
  unfold Obligations.StackPointerPlusDisplacement
  simp only [exec_addSpE8, exec_ldHlSpE8]
  refine ⟨by decide, by decide, fun s => ⟨fun m1 => ⟨?_, ?_⟩, fun m2 => ⟨?_, ?_⟩, fun m3 => ?_,
    fun e he => ⟨fun m4 => addSp_M4 m4 he, fun m3 => ldHlSp_M3 m3 he⟩⟩⟩
  · exact addSp_next_iff.2 (.inl ⟨m1, rfl⟩)
  · exact ldHlSp_next_iff.2 (.inl ⟨m1, rfl⟩)
  · exact addSp_next_iff.2 (.inr (.inl ⟨m2, rfl⟩))
  · exact ldHlSp_next_iff.2 (.inr (.inl ⟨m2, rfl⟩))
  · exact addSp_next_iff.2 (.inr (.inr (.inl ⟨m3, rfl⟩)))

end Sys2Proof

/-! The rotates, shifts and SWAP (R300 to R321): each result bit by bit, the rows of the tables, and the segments that
rotate. -/

namespace Sys2Proof.Machine

/-! ### The rotate function (R321)

RLC, RL and SLA are a left shift that takes a bit in below; RRC, RR, SRA and SRL a right shift that takes one in above. -/

theorem getLsbD_bit_eight (b : Bool) (i : Nat) : (bit 8 b).getLsbD i = (decide (i = 0) && b) := by
  rw [bit, BitVec.getLsbD_setWidth, BitVec.getLsbD_ofBool]
  by_cases low : i = 0 <;> simp [low]

theorem bit_false (w : Nat) : bit w false = 0#w := BitVec.setWidth_zero _ _

theorem getLsbD_shiftLeft_or_bit (v : Byte) (b : Bool) (i : Fin 8) :
    (v <<< 1 ||| bit 8 b).getLsbD i = if i = 0 then b else v.getLsbD (i - 1) := by
  rw [BitVec.getLsbD_or, BitVec.getLsbD_shiftLeft, getLsbD_bit_eight]
  by_cases low : i = 0
  · simp [low]
  · have : ¬ i.val < 1 := by omega
    simp [low, this]

theorem getLsbD_ushiftRight_or_bit (v : Byte) (b : Bool) (i : Fin 8) :
    (v >>> 1 ||| bit 8 b <<< 7).getLsbD i = if i = 7 then b else v.getLsbD (i + 1) := by
  rw [BitVec.getLsbD_or, BitVec.getLsbD_ushiftRight, BitVec.getLsbD_shiftLeft, getLsbD_bit_eight, Nat.add_comm]
  by_cases top : i = 7
  · simp [top]
  · have : i.val < 7 := by omega
    simp [top, this]

theorem getLsbD_rot_rlc (v : Byte) (c : Bool) (i : Fin 8) :
    (rot .rlc v c).1.getLsbD i = v.getLsbD ((i + 7) % 8) := by
  simp only [rot, getLsbD_shiftLeft_or_bit]
  split
  next low => simp [low]
  next above => congr 1; omega

theorem getLsbD_rot_rrc (v : Byte) (c : Bool) (i : Fin 8) :
    (rot .rrc v c).1.getLsbD i = v.getLsbD ((i + 1) % 8) := by
  simp only [rot, getLsbD_ushiftRight_or_bit]
  split
  next top => simp [top]
  next below => congr 1; omega

theorem getLsbD_rot_sla (v : Byte) (c : Bool) (i : Fin 8) :
    (rot .sla v c).1.getLsbD i = if i = 0 then false else v.getLsbD (i - 1) := by
  have taken := getLsbD_shiftLeft_or_bit v false i
  rwa [bit_false, BitVec.or_zero] at taken

theorem getLsbD_rot_srl (v : Byte) (c : Bool) (i : Fin 8) :
    (rot .srl v c).1.getLsbD i = if i = 7 then false else v.getLsbD (i + 1) := by
  have taken := getLsbD_ushiftRight_or_bit v false i
  rwa [bit_false, BitVec.zero_shiftLeft, BitVec.or_zero] at taken

/-- Masking with 0x80 keeps bit 7 alone: SRA takes the sign in above. -/
theorem and_80_eq_bit (v : Byte) : (v &&& 0x80 : Byte) = bit 8 (v.getLsbD 7) <<< 7 := by
  rw [show (0x80 : Byte) = BitVec.twoPow 8 7 from rfl, BitVec.and_twoPow]
  cases v.getLsbD 7 <;> rfl

theorem getLsbD_rot_sra (v : Byte) (c : Bool) (i : Fin 8) :
    (rot .sra v c).1.getLsbD i = if i = 7 then v.getLsbD 7 else v.getLsbD (i + 1) := by
  simp only [rot, and_80_eq_bit, getLsbD_ushiftRight_or_bit]

theorem getLsbD_rot_swap (v : Byte) (c : Bool) (i : Fin 8) :
    (rot .swap v c).1.getLsbD i = v.getLsbD ((i + 4) % 8) := by
  simp only [rot, BitVec.getLsbD_or, BitVec.getLsbD_shiftLeft, BitVec.getLsbD_ushiftRight]
  by_cases low : i.val < 4
  · have : (i.val + 4) % 8 = 4 + i := by omega
    simp [low, this]
  · have : (i.val + 4) % 8 = i - 4 := by omega
    simp [low, this, BitVec.getLsbD_of_ge v (4 + i) (by omega)]

/-! ### The rows -/

/-- R304 to R318: the rows of the rotates and shifts of a register, at CB `00 yyy zzz`. -/
theorem ofRotReg_hasEntry (op : RotOp) (r : Reg8) :
    (Instr.ofRotReg op r).hasEntry (.cb (8 * op.field + r.field)) 2 2 := by
  cases op <;> cases r <;> decide

/-- R305 to R319: the rows of the rotates and shifts of `(HL)`, at CB `00 yyy 110`. -/
theorem ofRotHl_hasEntry (op : RotOp) : (Instr.ofRotHl op).hasEntry (.cb (6 + 8 * op.field)) 4 4 := by
  cases op <;> decide

/-! ### The segments that rotate -/

theorem rotateA_M1 (op : RotOp) {s : State} (h : s.standsAt 0) :
    rotateA op s = .next ((s.setReg .a (rot op s.regs.a s.regs.flags.c).1).setFlags
      ⟨false, false, false, (rot op s.regs.a s.regs.flags.c).2⟩) :=
  (rotateA_next_iff op).2 ⟨h, rfl⟩

theorem rotReg_M2 (op : RotOp) (r : Reg8) {s : State} (h : s.standsAt 1) :
    rotReg op r s = .next ((s.setReg r (rot op (s.reg r) s.regs.flags.c).1).setFlags
      ⟨decide ((rot op (s.reg r) s.regs.flags.c).1 = 0), false, false, (rot op (s.reg r) s.regs.flags.c).2⟩) :=
  (rotReg_next_iff op r).2 (.inr ⟨h, rfl⟩)

theorem rotHl_M4 (op : RotOp) {s : State} {v : Byte} (h : s.standsAt 3) (hv : s.holdsTmp v) :
    rotHl op s = .next ((s.memWrite s.hl (rot op v s.regs.flags.c).1).setFlags
      ⟨decide ((rot op v s.regs.flags.c).1 = 0), false, false, (rot op v s.regs.flags.c).2⟩) :=
  (rotHl_next_iff op).2 (.inr (.inr (.inr ⟨h, v, hv, rfl⟩)))

end Sys2Proof.Machine

namespace Sys2Proof

open Sys2Proof.Machine

/-- Settles O10: the shifts with the bit each takes in; RLC and RRC take in the bit they shift out, SRA the sign. -/
theorem rotateMovesEveryBit : Obligations.RotateMovesEveryBit := by
  unfold Obligations.RotateMovesEveryBit
  intro v c i
  exact ⟨⟨getLsbD_rot_rlc v c i, rfl⟩, ⟨getLsbD_rot_rrc v c i, rfl⟩, ⟨getLsbD_shiftLeft_or_bit v c i, rfl⟩,
    ⟨getLsbD_ushiftRight_or_bit v c i, rfl⟩, ⟨getLsbD_rot_sla v c i, rfl⟩, ⟨getLsbD_rot_sra v c i, rfl⟩,
    ⟨getLsbD_rot_swap v c i, rfl⟩, ⟨getLsbD_rot_srl v c i, rfl⟩, fun _ _ => rfl⟩

/-- Settles O22: the rows, and the one segment they share, with Z always 0. -/
theorem accumulatorRotates : Obligations.AccumulatorRotates := by
  unfold Obligations.AccumulatorRotates
  simp only [List.forall_mem_cons, List.not_mem_nil, false_imp_iff, implies_true, and_true,
    exec_rlca, exec_rrca, exec_rla, exec_rra]
  exact ⟨by decide, by decide, by decide, by decide, fun s m1 =>
    ⟨rotateA_M1 .rlc m1, rotateA_M1 .rrc m1, rotateA_M1 .rl m1, rotateA_M1 .rr m1⟩⟩

/-- Settles O23: the rows, and M2, which rotates. -/
theorem rotatesOnRegisters : Obligations.RotatesOnRegisters := by
  unfold Obligations.RotatesOnRegisters
  simp only [exec_ofRotReg]
  exact fun op r => ⟨ofRotReg_hasEntry op r, fun s => rotReg_M2 op r⟩

/-- Settles O24: the rows, and the schedule of R320: M2 idle, M3 reads, M4 writes the rotate back. -/
theorem rotatesOnMemory : Obligations.RotatesOnMemory := by
  unfold Obligations.RotatesOnMemory
  simp only [exec_ofRotHl]
  refine fun op => ⟨ofRotHl_hasEntry op, fun s => ⟨fun m2 => ?_, fun m3 => ?_, fun v => rotHl_M4 op⟩⟩
  · exact (rotHl_next_iff op).2 (.inr (.inl ⟨m2, rfl⟩))
  · exact (rotHl_next_iff op).2 (.inr (.inr (.inl ⟨m3, rfl⟩)))

end Sys2Proof

/-! BIT, RES and SET (R330 to R335): which bit changes, the rows of the tables, and the segments that test or change a
bit. -/

namespace Sys2Proof.Machine

/-! ### The bit operations (R332, R334)

The mask `1 << b` is bit `b` alone. -/

theorem getLsbD_one_shiftLeft (b : Nat) {i : Nat} (hi : i < 8) : ((1 : Byte) <<< b).getLsbD i = decide (i = b) := by
  rw [show (1 : Byte) <<< b = BitVec.twoPow 8 b from rfl, BitVec.getLsbD_twoPow]
  by_cases same : i = b
  · subst same; simp [hi]
  · simp [same, Ne.symm same]

theorem getLsbD_clearBit (b : Nat) (v : Byte) {i : Nat} (hi : i < 8) :
    (clearBit b v).getLsbD i = if i = b then false else v.getLsbD i := by
  rw [clearBit, BitVec.getLsbD_and, BitVec.getLsbD_not, getLsbD_one_shiftLeft b hi]
  by_cases same : i = b <;> simp [same, hi]

theorem getLsbD_assertBit (b : Nat) (v : Byte) {i : Nat} (hi : i < 8) :
    (assertBit b v).getLsbD i = if i = b then true else v.getLsbD i := by
  rw [assertBit, BitVec.getLsbD_or, getLsbD_one_shiftLeft b hi]
  by_cases same : i = b <;> simp [same]

/-! ### The rows -/

/-- R330: the row of `BIT b,r`, at CB `01 bbb zzz`. -/
theorem ofBitReg_hasEntry (b : Oct) (r : Reg8) :
    (Instr.ofBitReg b r).hasEntry (.cb (0x40 + 8 * b.field + r.field)) 2 2 := by
  cases b <;> cases r <;> decide

/-- R332: the row of `RES b,r`, at CB `10 bbb zzz`. -/
theorem ofResReg_hasEntry (b : Oct) (r : Reg8) :
    (Instr.ofResReg b r).hasEntry (.cb (0x80 + 8 * b.field + r.field)) 2 2 := by
  cases b <;> cases r <;> decide

/-- R334: the row of `SET b,r`, at CB `11 bbb zzz`. -/
theorem ofSetReg_hasEntry (b : Oct) (r : Reg8) :
    (Instr.ofSetReg b r).hasEntry (.cb (0xC0 + 8 * b.field + r.field)) 2 2 := by
  cases b <;> cases r <;> decide

/-- R331: the row of `BIT b,(HL)`, at CB `01 bbb 110`. -/
theorem ofBitHl_hasEntry (b : Oct) : (Instr.ofBitHl b).hasEntry (.cb (0x46 + 8 * b.field)) 3 3 := by
  cases b <;> decide

/-- R333: the row of `RES b,(HL)`, at CB `10 bbb 110`. -/
theorem ofResHl_hasEntry (b : Oct) : (Instr.ofResHl b).hasEntry (.cb (0x86 + 8 * b.field)) 4 4 := by
  cases b <;> decide

/-- R335: the row of `SET b,(HL)`, at CB `11 bbb 110`. -/
theorem ofSetHl_hasEntry (b : Oct) : (Instr.ofSetHl b).hasEntry (.cb (0xC6 + 8 * b.field)) 4 4 := by
  cases b <;> decide

/-! ### The segments that test or change a bit -/

theorem bitReg_M2 (b : Oct) (r : Reg8) {s : State} (h : s.standsAt 1) :
    bitReg b r s = .next (s.setFlags ⟨!(s.reg r).getLsbD b.toNat, false, true, s.regs.flags.c⟩) :=
  (bitReg_next_iff b r).2 (.inr ⟨h, rfl⟩)

theorem resReg_M2 (b : Oct) (r : Reg8) {s : State} (h : s.standsAt 1) :
    resReg b r s = .next (s.setReg r (clearBit b.toNat (s.reg r))) :=
  (resReg_next_iff b r).2 (.inr ⟨h, rfl⟩)

theorem setReg_M2 (b : Oct) (r : Reg8) {s : State} (h : s.standsAt 1) :
    setReg b r s = .next (s.setReg r (assertBit b.toNat (s.reg r))) :=
  (setReg_next_iff b r).2 (.inr ⟨h, rfl⟩)

theorem bitHl_M3 (b : Oct) {s : State} (h : s.standsAt 2) :
    bitHl b s = .next (((s.noteRead s.hl).setTmp (s.peek s.hl)).setFlags
      ⟨!(s.peek s.hl).getLsbD b.toNat, false, true, s.regs.flags.c⟩) :=
  (bitHl_next_iff b).2 (.inr (.inr ⟨h, rfl⟩))

theorem resHl_M4 (b : Oct) {s : State} {v : Byte} (h : s.standsAt 3) (hv : s.holdsTmp v) :
    resHl b s = .next (s.memWrite s.hl (clearBit b.toNat v)) :=
  (resHl_next_iff b).2 (.inr (.inr (.inr ⟨h, v, hv, rfl⟩)))

theorem setHl_M4 (b : Oct) {s : State} {v : Byte} (h : s.standsAt 3) (hv : s.holdsTmp v) :
    setHl b s = .next (s.memWrite s.hl (assertBit b.toNat v)) :=
  (setHl_next_iff b).2 (.inr (.inr (.inr ⟨h, v, hv, rfl⟩)))

end Sys2Proof.Machine

namespace Sys2Proof

open Sys2Proof.Machine

/-- Settles O25: the rows, the schedules of R320 (on `(HL)` M2 idle, M3 the read, M4 the write that BIT has not), and
RES and SET bit by bit (`getLsbD_clearBit`, `getLsbD_assertBit`). -/
theorem bitTestResetAndSet : Obligations.BitTestResetAndSet := by
  unfold Obligations.BitTestResetAndSet
  simp only [exec_ofBitReg, exec_ofResReg, exec_ofSetReg, exec_ofBitHl, exec_ofResHl, exec_ofSetHl]
  refine ⟨fun b r => ⟨ofBitReg_hasEntry b r, ofResReg_hasEntry b r, ofSetReg_hasEntry b r,
      fun s m2 => ⟨bitReg_M2 b r m2, resReg_M2 b r m2, setReg_M2 b r m2⟩⟩,
    fun b => ⟨ofBitHl_hasEntry b, ofResHl_hasEntry b, ofSetHl_hasEntry b, fun s =>
      ⟨fun m2 => ⟨?_, ?_, ?_⟩, fun m3 => ⟨bitHl_M3 b m3, ?_, ?_⟩, fun v m4 hv => ⟨resHl_M4 b m4 hv, setHl_M4 b m4 hv⟩⟩⟩,
    fun b v i hi => ⟨getLsbD_clearBit b.toNat v hi, getLsbD_assertBit b.toNat v hi⟩⟩
  · exact (bitHl_next_iff b).2 (.inr (.inl ⟨m2, rfl⟩))
  · exact (resHl_next_iff b).2 (.inr (.inl ⟨m2, rfl⟩))
  · exact (setHl_next_iff b).2 (.inr (.inl ⟨m2, rfl⟩))
  · exact (resHl_next_iff b).2 (.inr (.inr (.inl ⟨m3, rfl⟩)))
  · exact (setHl_next_iff b).2 (.inr (.inr (.inl ⟨m3, rfl⟩)))

end Sys2Proof

/-! Jumps, calls, restarts and returns (R350 to R365): the conditions, the rows of the tables, and the segments that
test a condition, displace PC or push it. -/

namespace Sys2Proof.Machine

/-! ### The conditions (R107, R152) -/

/-- R107: the model's test of a condition is what the condition asks of the flags. -/
theorem Flags.cond_iff_holds (f : Flags) (cc : Cond) : f.cond cc = true ↔ cc.holds f := by
  cases cc <;> simp [Flags.cond, Cond.holds]

/-- R152: the condition reads the flags only, so a segment that has left the registers may test it in the state
before. -/
theorem State.branchIf_of_regs_eq {s t : State} (h : t.regs = s.regs) (cc : Cond) (n : Nat) :
    t.branchIf cc n = if s.cond cc then t.addCycles n else t := by
  have same : t.cond cc = s.cond cc := congrArg (·.flags.cond cc) h
  rw [State.branchIf, same]

/-! ### The rows -/

/-- R351: the rows of `JP cc,n16`, at `110 cc 010`. -/
theorem ofJpCc_hasEntry (cc : Cond) : (Instr.ofJpCc cc).hasEntry (.base (0xC2 + 8 * cc.field)) 3 4 := by
  cases cc <;> decide

/-- R354: the rows of `JR cc,e8`, at `001 cc 000`. -/
theorem ofJrCc_hasEntry (cc : Cond) : (Instr.ofJrCc cc).hasEntry (.base (0x20 + 8 * cc.field)) 2 3 := by
  cases cc <;> decide

/-- R356: the rows of `CALL cc,n16`, at `110 cc 100`. -/
theorem ofCallCc_hasEntry (cc : Cond) : (Instr.ofCallCc cc).hasEntry (.base (0xC4 + 8 * cc.field)) 3 6 := by
  cases cc <;> decide

/-- R365: the rows of `RST t`, at `11 ttt 111`. -/
theorem ofRst_hasEntry (t : Oct) : (Instr.ofRst t).hasEntry (.base (0xC7 + 8 * t.field)) 4 4 := by
  cases t <;> decide

/-- R361: the rows of `RET cc`, at `110 cc 000`. -/
theorem ofRetCc_hasEntry (cc : Cond) : (Instr.ofRetCc cc).hasEntry (.base (0xC0 + 8 * cc.field)) 2 5 := by
  cases cc <;> decide

/-! ### The segments that test the condition

The fetch of an operand leaves the registers, so the condition is that of the state before the segment. -/

theorem jpCc_M3 (cc : Cond) {s : State} (h : s.standsAt 2) :
    jpCc cc s = .next
      (if s.cond cc then (s.fetched.setHi (s.peek s.pc)).addCycles 1 else s.fetched.setHi (s.peek s.pc)) :=
  (jpCc_next_iff cc).2 (.inr (.inr (.inl ⟨h, State.branchIf_of_regs_eq rfl cc 1⟩)))

theorem jrCc_M2 (cc : Cond) {s : State} (h : s.standsAt 1) :
    jrCc cc s = .next
      (if s.cond cc then (s.fetched.setTmp (s.peek s.pc)).addCycles 1 else s.fetched.setTmp (s.peek s.pc)) :=
  (jrCc_next_iff cc).2 (.inr (.inl ⟨h, State.branchIf_of_regs_eq rfl cc 1⟩))

theorem callCc_M3 (cc : Cond) {s : State} (h : s.standsAt 2) :
    callCc cc s = .next
      (if s.cond cc then (s.fetched.setHi (s.peek s.pc)).addCycles 3 else s.fetched.setHi (s.peek s.pc)) :=
  (callCc_next_iff cc).2 (.inr (.inr (.inl ⟨h, State.branchIf_of_regs_eq rfl cc 3⟩)))

theorem retCc_M2 (cc : Cond) {s : State} (h : s.standsAt 1) :
    retCc cc s = .next (if s.cond cc then s.addCycles 3 else s) :=
  (retCc_next_iff cc).2 (.inr (.inl ⟨h, State.branchIf_of_regs_eq rfl cc 3⟩))

/-! ### The segments that displace PC -/

/-- R353: PC plus the sign-extended displacement is PC plus its signed value, modulo 65536. -/
theorem State.setPc_add_sext16 (s : State) (e : Byte) :
    s.setPc (s.pc + sext16 e) = s.setPc (BitVec.ofInt 16 (s.pc.toNat + e.toInt)) :=
  congrArg s.setPc (add_signExtend_eq_ofInt s.pc e)

theorem jr_M3 {s : State} {e : Byte} (h : s.standsAt 2) (he : s.holdsTmp e) :
    jr s = .next (s.setPc (BitVec.ofInt 16 (s.pc.toNat + e.toInt))) :=
  jr_next_iff.2 (.inr (.inr ⟨h, e, he, s.setPc_add_sext16 e⟩))

theorem jrCc_M3 (cc : Cond) {s : State} {e : Byte} (h : s.standsAt 2) (he : s.holdsTmp e) :
    jrCc cc s = .next (s.setPc (BitVec.ofInt 16 (s.pc.toNat + e.toInt))) :=
  (jrCc_next_iff cc).2 (.inr (.inr ⟨h, e, he, s.setPc_add_sext16 e⟩))

/-! ### The segments that push the high byte of PC -/

/-- R355: the store of a push leaves SP, so SP is stepped from its value before the store. -/
theorem State.memWrite_setSp_sub_one (s : State) (a : Word) (v : Byte) :
    (s.memWrite a v).setSp ((s.memWrite a v).sp - 1) = (s.memWrite a v).setSp (s.sp - 1) := by
  rw [State.memWrite_sp]

theorem call_M5 {s : State} (h : s.standsAt 4) :
    call s = .next ((s.memWrite s.sp (highByte s.pc)).setSp (s.sp - 1)) :=
  call_next_iff.2 (.inr (.inr (.inr (.inr (.inl ⟨h, s.memWrite_setSp_sub_one s.sp _⟩)))))

theorem callCc_M5 (cc : Cond) {s : State} (h : s.standsAt 4) :
    callCc cc s = .next ((s.memWrite s.sp (highByte s.pc)).setSp (s.sp - 1)) :=
  (callCc_next_iff cc).2 (.inr (.inr (.inr (.inr (.inl ⟨h, s.memWrite_setSp_sub_one s.sp _⟩)))))

theorem rst_M3 (t : Oct) {s : State} (h : s.standsAt 2) :
    rst t s = .next ((s.memWrite s.sp (highByte s.pc)).setSp (s.sp - 1)) :=
  (rst_next_iff t).2 (.inr (.inr (.inl ⟨h, s.memWrite_setSp_sub_one s.sp _⟩)))

end Sys2Proof.Machine

namespace Sys2Proof

open Sys2Proof.Machine

/-- Settles O26: the conditions, the rows, and per family the segments of its schedule; the relative jumps end in the
displacement of PC as a signed sum (`State.setPc_add_sext16`). -/
theorem jumps : Obligations.Jumps := by
  unfold Obligations.Jumps
  simp only [exec_jpN16, exec_jpHl, exec_jrE8, exec_ofJpCc, exec_ofJrCc]
  refine ⟨Flags.cond_iff_holds, fun _ _ => rfl, ⟨by decide, by decide, by decide⟩,
    fun cc => ⟨ofJpCc_hasEntry cc, ofJrCc_hasEntry cc⟩, fun s =>
    ⟨fun m1 => ⟨?_, ?_, ?_, fun cc => ⟨?_, ?_⟩⟩, fun m2 => ⟨?_, ?_, fun cc => ⟨?_, jrCc_M2 cc m2⟩⟩,
      fun m3 => ⟨?_, fun cc => jpCc_M3 cc m3⟩, fun e m3 he => ⟨jr_M3 m3 he, fun cc => jrCc_M3 cc m3 he⟩,
      fun lo hi m4 hlo hhi => ⟨?_, fun cc => ?_⟩⟩⟩
  · exact jp_next_iff.2 (.inl ⟨m1, rfl⟩)
  · exact jpHl_next_iff.2 ⟨m1, rfl⟩
  · exact jr_next_iff.2 (.inl ⟨m1, rfl⟩)
  · exact (jpCc_next_iff cc).2 (.inl ⟨m1, rfl⟩)
  · exact (jrCc_next_iff cc).2 (.inl ⟨m1, rfl⟩)
  · exact jp_next_iff.2 (.inr (.inl ⟨m2, rfl⟩))
  · exact jr_next_iff.2 (.inr (.inl ⟨m2, rfl⟩))
  · exact (jpCc_next_iff cc).2 (.inr (.inl ⟨m2, rfl⟩))
  · exact jp_next_iff.2 (.inr (.inr (.inl ⟨m3, rfl⟩)))
  · exact jp_next_iff.2 (.inr (.inr (.inr ⟨m4, hi, hhi, lo, hlo, rfl⟩)))
  · exact (jpCc_next_iff cc).2 (.inr (.inr (.inr ⟨m4, hi, hhi, lo, hlo, rfl⟩)))

/-- Settles O27: the conditions, the rows, and per family the segments of its schedule; SP is stepped around the two
stores of PC's bytes (`State.memWrite_setSp_sub_one`). -/
theorem callsAndRestarts : Obligations.CallsAndRestarts := by
  unfold Obligations.CallsAndRestarts
  simp only [exec_callN16, exec_ofCallCc, exec_ofRst]
  refine ⟨Flags.cond_iff_holds, fun _ _ => rfl, by decide, ofCallCc_hasEntry, ofRst_hasEntry, fun s cc t =>
    ⟨fun m1 => ⟨?_, ?_, ?_⟩, fun m2 => ⟨?_, ?_, ?_⟩, fun m3 => ⟨?_, callCc_M3 cc m3, rst_M3 t m3⟩,
      fun m4 => ⟨?_, ?_, ?_⟩, fun m5 => ⟨call_M5 m5, callCc_M5 cc m5⟩, fun lo hi m6 hlo hhi => ⟨?_, ?_⟩⟩⟩
  · exact call_next_iff.2 (.inl ⟨m1, rfl⟩)
  · exact (callCc_next_iff cc).2 (.inl ⟨m1, rfl⟩)
  · exact (rst_next_iff t).2 (.inl ⟨m1, rfl⟩)
  · exact call_next_iff.2 (.inr (.inl ⟨m2, rfl⟩))
  · exact (callCc_next_iff cc).2 (.inr (.inl ⟨m2, rfl⟩))
  · exact (rst_next_iff t).2 (.inr (.inl ⟨m2, rfl⟩))
  · exact call_next_iff.2 (.inr (.inr (.inl ⟨m3, rfl⟩)))
  · exact call_next_iff.2 (.inr (.inr (.inr (.inl ⟨m4, rfl⟩))))
  · exact (callCc_next_iff cc).2 (.inr (.inr (.inr (.inl ⟨m4, rfl⟩))))
  · exact (rst_next_iff t).2 (.inr (.inr (.inr ⟨m4, rfl⟩)))
  · exact call_next_iff.2 (.inr (.inr (.inr (.inr (.inr ⟨m6, hi, hhi, lo, hlo, rfl⟩)))))
  · exact (callCc_next_iff cc).2 (.inr (.inr (.inr (.inr (.inr ⟨m6, hi, hhi, lo, hlo, rfl⟩)))))

/-- Settles O28: the conditions, the rows, and per family the segments of its schedule; RET cc tests in M2, so its
reads come one segment later than those of RET and RETI. -/
theorem returns : Obligations.Returns := by
  unfold Obligations.Returns
  simp only [exec_ret, exec_reti, exec_ofRetCc]
  refine ⟨Flags.cond_iff_holds, fun _ _ => rfl, by decide, by decide, ofRetCc_hasEntry, fun s cc =>
    ⟨fun m1 => ⟨?_, ?_, ?_⟩, fun m2 => ⟨?_, ?_, retCc_M2 cc m2⟩, fun m3 => ⟨?_, ?_, ?_⟩, fun m4 => ?_,
      fun lo hi hlo hhi => ⟨fun m4 => ⟨?_, ?_⟩, fun m5 => ?_⟩⟩⟩
  · exact returnFrom_next_iff.2 (.inl ⟨m1, rfl⟩)
  · exact returnFromInterrupt_next_iff.2 (.inl ⟨m1, rfl⟩)
  · exact (retCc_next_iff cc).2 (.inl ⟨m1, rfl⟩)
  · exact returnFrom_next_iff.2 (.inr (.inl ⟨m2, rfl⟩))
  · exact returnFromInterrupt_next_iff.2 (.inr (.inl ⟨m2, rfl⟩))
  · exact returnFrom_next_iff.2 (.inr (.inr (.inl ⟨m3, rfl⟩)))
  · exact returnFromInterrupt_next_iff.2 (.inr (.inr (.inl ⟨m3, rfl⟩)))
  · exact (retCc_next_iff cc).2 (.inr (.inr (.inl ⟨m3, rfl⟩)))
  · exact (retCc_next_iff cc).2 (.inr (.inr (.inr (.inl ⟨m4, rfl⟩))))
  · exact returnFrom_next_iff.2 (.inr (.inr (.inr ⟨m4, hi, hhi, lo, hlo, rfl⟩)))
  · exact returnFromInterrupt_next_iff.2 (.inr (.inr (.inr ⟨m4, hi, hhi, lo, hlo, rfl⟩)))
  · exact (retCc_next_iff cc).2 (.inr (.inr (.inr (.inr ⟨m5, hi, hhi, lo, hlo, rfl⟩))))

end Sys2Proof

/-! NOP, DI and EI (R380, R386, R387), and what consumes the EI delay (R147). -/

namespace Sys2Proof

open Sys2Proof.Machine

/-- Settles O29: the rows and the one segment of each routine; a fetch turns the delay into IME
(`State.fetch_ime`), the start of an acceptance sequence leaves it (`State.beginInterrupt_delay`). -/
theorem nopAndInterruptEnable : Obligations.NopAndInterruptEnable := by
  unfold Obligations.NopAndInterruptEnable
  simp only [exec_nop, exec_di, exec_ei]
  refine ⟨by decide, by decide, by decide, fun s =>
    ⟨fun m1 => ⟨?_, ?_, ?_⟩, fun delayed => ⟨s.fetch_delay, ?_⟩, fun undelayed => ⟨s.fetch_delay, ?_⟩,
      s.beginInterrupt_delay⟩⟩
  · exact nop_next_iff.2 ⟨m1, rfl⟩
  · exact di_next_iff.2 ⟨m1, rfl⟩
  · exact ei_next_iff.2 ⟨m1, rfl⟩
  · rw [State.fetch_ime, delayed, Bool.true_or]
  · rw [State.fetch_ime, undelayed, Bool.false_or]

end Sys2Proof

/-! The priority encoder of the interrupt controller (R402, R411). -/

namespace Sys2Proof

open Sys2Proof.Machine

/-- The encoder tests the bits from 0 upwards: the source it answers has its bit set, and the tests that failed before
it are the lower bits, all clear. -/
theorem priorityVector_eq_some_lowest {m : BitVec 5} {i : IntSource} (h : priorityVector m = some i) :
    m.getLsbD i.index = true ∧ ∀ j < i.index, m.getLsbD j = false := by
  unfold priorityVector at h
  split_ifs at h with b0 b1 b2 b3 b4 <;> obtain rfl := Option.some.inj h <;> simp only [IntSource.index]
  · exact ⟨b0, fun j lower => absurd lower j.not_lt_zero⟩
  · exact ⟨b1, fun j lower => by interval_cases j; exact Bool.eq_false_of_not_eq_true b0⟩
  · exact ⟨b2, fun j lower => by interval_cases j <;> exact Bool.eq_false_of_not_eq_true ‹_›⟩
  · exact ⟨b3, fun j lower => by interval_cases j <;> exact Bool.eq_false_of_not_eq_true ‹_›⟩
  · exact ⟨b4, fun j lower => by interval_cases j <;> exact Bool.eq_false_of_not_eq_true ‹_›⟩

/-- Settles O44: none is `priorityVector_eq_none`, the lowest set bit `priorityVector_eq_some_lowest`; the vectors and
the order of the sources are the model's own equations. -/
theorem priorityEncoderTakesTheLowestBit : Obligations.PriorityEncoderTakesTheLowestBit :=
  ⟨fun _ => priorityVector_eq_none, fun _ _ => priorityVector_eq_some_lowest, fun _ => rfl,
    rfl, rfl, rfl, rfl, rfl⟩

end Sys2Proof

/-! The two decode tables against the opcodes (R111, R113, R115), and decoding against encoding (R103, R114). -/

namespace Sys2Proof

/-! ### The tables and the opcodes -/

/-- R111: the base table holds at each byte the instruction with that opcode. -/
theorem opcode_decodeBase : ∀ op : Byte, (decodeBase op).opcode = .base op := by decide

/-- R113: so does the CB table. -/
theorem opcode_decodeCb : ∀ b : Byte, (decodeCb b).opcode = .cb b := by decide

/-- Every instruction stands in its table at its opcode. -/
theorem instr_opcode (i : Instr) : i.opcode.instr = i := by cases i <;> rfl

theorem decodeBase_of_opcode {i : Instr} {op : Byte} (h : i.opcode = .base op) : decodeBase op = i := by
  have entry := instr_opcode i
  rwa [h] at entry

theorem decodeCb_of_opcode {i : Instr} {b : Byte} (h : i.opcode = .cb b) : decodeCb b = i := by
  have entry := instr_opcode i
  rwa [h] at entry

/-- R388: 0xCB is PREFIX CB, and no other opcode is. -/
theorem decodeBase_eq_prefixCB_iff {op : Byte} : decodeBase op = .prefixCB ↔ op = 0xCB :=
  ⟨fun h => Opcode.base.inj ((opcode_decodeBase op).symm.trans (congrArg Instr.opcode h)), fun h => h ▸ rfl⟩

theorem decodeCb_ne_prefixCB (b : Byte) : decodeCb b ≠ .prefixCB := fun h =>
  Opcode.noConfusion ((opcode_decodeCb b).symm.trans (congrArg Instr.opcode h))

/-! ### The operand counts against the lengths -/

/-- R114: the length of a base entry other than PREFIX CB is one more than its operand count. -/
theorem lengthBase_sub_one : ∀ op : Byte, op ≠ 0xCB → lengthBase op - 1 = (decodeBase op).form.operandBytes := by
  decide

/-- R115: a CB instruction has no operand bytes. -/
theorem operandBytes_decodeCb : ∀ b : Byte, (decodeCb b).form.operandBytes = 0 := by decide

/-! ### Decoding, by the first byte -/

theorem decode_cb (b : Byte) (rest : List Byte) : decode (0xCB :: b :: rest) = .ok (⟨decodeCb b, []⟩, rest) := rfl

theorem decode_base {op : Byte} (hop : op ≠ 0xCB) {operands : List Byte}
    (fit : operands.length = (decodeBase op).form.operandBytes) (rest : List Byte) :
    decode (op :: (operands ++ rest)) = .ok (⟨decodeBase op, operands⟩, rest) := by
  simp only [decode, if_neg hop, lengthBase_sub_one op hop, ← fit]
  simp

/-- What decodes is a CB instruction after its 0xCB, or a base instruction with all its operand bytes. -/
theorem decode_cases {bytes rest : List Byte} {c : Code} (h : decode bytes = .ok (c, rest)) :
    (∃ b, bytes = 0xCB :: b :: rest ∧ c = ⟨decodeCb b, []⟩) ∨
    (∃ op, op ≠ 0xCB ∧ bytes = op :: (c.operands ++ rest) ∧ c.instr = decodeBase op ∧
      c.operands.length = (decodeBase op).form.operandBytes) := by
  match bytes with
  | [] => simp [decode] at h
  | op :: more =>
    by_cases hop : op = 0xCB
    · subst hop
      match more with
      | [] => simp [decode] at h
      | b :: rest' =>
        obtain ⟨rfl, rfl⟩ := by simpa [decode_cb] using h
        exact .inl ⟨b, rfl, rfl⟩
    · simp only [decode, if_neg hop, lengthBase_sub_one op hop] at h
      split at h
      · cases h
      · next enough =>
        obtain ⟨rfl, rfl⟩ := by simpa using h
        exact .inr ⟨op, hop, by simp, rfl, by simp; omega⟩

/-! ### Well-formedness -/

theorem Code.wf_iff (c : Code) : c.wf = true ↔ c.instr ≠ .prefixCB ∧ c.operands.length = c.instr.form.operandBytes := by
  simp [Code.wf, Code.isWhole, Code.operandsFit]

/-- Settles O3, by the two tables and the opcodes. -/
theorem opcodeTablesNameEveryInstructionOnce : Obligations.OpcodeTablesNameEveryInstructionOnce :=
  ⟨opcode_decodeBase, opcode_decodeCb, instr_opcode⟩

/-- Settles O4, by running the decoder. -/
theorem wordsOfTheMapsDecode : Obligations.WordsOfTheMapsDecode := by
  unfold Obligations.WordsOfTheMapsDecode
  exact ⟨rfl, rfl, rfl, rfl, rfl, rfl, rfl, rfl, rfl, rfl, rfl⟩

/-- Settles O1: the opcode tells the table, and the table's entry is the instruction with its operand count. -/
theorem decodeOfEncodeIsTheInstruction : Obligations.DecodeOfEncodeIsTheInstruction := by
  unfold Obligations.DecodeOfEncodeIsTheInstruction
  rintro ⟨i, operands⟩ rest wf
  obtain ⟨whole, fit⟩ := (Code.wf_iff _).1 wf
  cases hi : i.opcode with
  | base op =>
    obtain rfl := decodeBase_of_opcode hi
    have hop : op ≠ 0xCB := fun e => whole (decodeBase_eq_prefixCB_iff.2 e)
    simpa [encode, hi, Opcode.bytes] using decode_base hop fit rest
  | cb b =>
    obtain rfl := decodeCb_of_opcode hi
    obtain rfl : operands = [] := List.length_eq_zero_iff.1 (fit.trans (operandBytes_decodeCb b))
    simpa [encode, hi, Opcode.bytes] using decode_cb b rest

/-- Settles O2: the two ways to decode (`decode_cases`) each read back an encoding. -/
theorem encodeOfDecodeIsTheBytes : Obligations.EncodeOfDecodeIsTheBytes := by
  unfold Obligations.EncodeOfDecodeIsTheBytes
  intro bytes rest c h
  rw [Code.wf_iff]
  rcases decode_cases h with ⟨b, rfl, rfl⟩ | ⟨op, hop, rfl, hi, fit⟩
  · exact ⟨⟨decodeCb_ne_prefixCB b, (operandBytes_decodeCb b).symm⟩, by simp [encode, opcode_decodeCb, Opcode.bytes]⟩
  · rw [hi]
    exact ⟨⟨mt decodeBase_eq_prefixCB_iff.1 hop, fit⟩, by simp [encode, hi, opcode_decodeBase, Opcode.bytes]⟩

end Sys2Proof

/-! The bus port (R70 to R73, R86): what a read returns after a write, the two addresses of the block, the handlers. -/

namespace Sys2Proof.Machine

/-! ### Where a byte written is read -/

theorem State.store_of_if (s : State) (v : Byte) : s.store ifAddr v = { s with ifl := v.setWidth 5 } := if_pos rfl

/-- Away from IF and IE a write stores into memory, where RAM answers, or nowhere. -/
theorem State.store_of_bus {s : State} {a : Word} (hif : a ≠ ifAddr) (hie : a ≠ ieAddr) (v : Byte) :
    s.store a v = if s.handler a = some .ram then { s with mem := Memory.set s.mem a.toNat v } else s := by
  rw [State.store, if_neg hif, if_neg hie]

theorem State.peek_of_bus (s : State) {a : Word} (hif : a ≠ ifAddr) (hie : a ≠ ieAddr) : s.peek a = s.busAnswer a := by
  rw [State.peek, if_neg hif, if_neg hie]

/-- R70: unmapped addresses read 0xFF. -/
theorem State.busAnswer_of_unmapped {s : State} {a : Word} (h : s.handler a = none) : s.busAnswer a = 0xFF := by
  rw [State.busAnswer, h]

/-- R86: RAM returns the byte written. -/
theorem State.memWrite_peek_same {s : State} {a : Word} (wf : Memory.wf s.mem = true) (hif : a ≠ ifAddr)
    (hie : a ≠ ieAddr) (ram : s.handler a = some .ram) (v : Byte) : (s.memWrite a v).peek a = v := by
  rw [State.peek_of_bus _ hif hie, State.busAnswer, State.memWrite_handler, ram, State.memWrite_mem,
    State.store_of_bus hif hie, if_pos ram]
  exact Memory.get_set_same wf v

/-- What a read away from devices depends on: the content of the address and whether it is mapped. -/
theorem State.peek_eq_of_content {s t : State} {b : Word} (map : t.handler b = s.handler b)
    (content : t.content b = s.content b) (device : s.handler b ≠ some .device) : t.peek b = s.peek b := by
  by_cases own : b = ifAddr ∨ b = ieAddr
  · have own' (u : State) : u.peek b = u.content b := u.peek_eq_content b (own.imp_right .inl)
    rw [own', own', content]
  · obtain ⟨hif, hie⟩ := not_or.1 own
    cases mapped : s.handler b with
    | none => rw [t.peek_of_bus hif hie, s.peek_of_bus hif hie, State.busAnswer_of_unmapped (map.trans mapped),
        State.busAnswer_of_unmapped mapped]
    | some kind =>
      have memory : kind = .ram ∨ kind = .rom := by cases kind <;> simp_all
      have memory' (u : State) (h : u.handler b = some kind) : u.peek b = u.content b :=
        u.peek_eq_content b (.inr (.inr (memory.imp (h ▸ congrArg some ·) (h ▸ congrArg some ·))))
      rw [memory' t (map.trans mapped), memory' s mapped, content]

theorem State.memWrite_peek_other (s : State) {a b : Word} (v : Byte) (h : b ≠ a)
    (device : s.handler b ≠ some .device) : (s.memWrite a v).peek b = s.peek b :=
  State.peek_eq_of_content (s.memWrite_handler a v b) (s.memWrite_content_other a b v h) device

/-! ### The record of the external bus -/

theorem BusEvent.filter_isExternal_cons_of_own {e : BusEvent} (h : e.addr = ifAddr ∨ e.addr = ieAddr)
    (log : List BusEvent) : (e :: log).filter BusEvent.isExternal = log.filter BusEvent.isExternal :=
  List.filter_cons_of_neg (by rcases h with h | h <;> simp [BusEvent.isExternal, h])

theorem BusEvent.filter_isExternal_cons_of_bus {e : BusEvent} (hif : e.addr ≠ ifAddr) (hie : e.addr ≠ ieAddr)
    (log : List BusEvent) : (e :: log).filter BusEvent.isExternal = e :: log.filter BusEvent.isExternal :=
  List.filter_cons_of_pos (by simp [BusEvent.isExternal, hif, hie])

/-! ### The handlers -/

/-- R70: the handlers before the first that accepts do not count. -/
theorem State.handler_of_first {s : State} {a : Word} {before after : List Region} {r : Region}
    (map : s.busMap = before ++ r :: after) (earlier : ∀ q ∈ before, q.accepts a = false) (here : r.accepts a = true) :
    s.handler a = some r.kind := by
  have none : before.find? (·.accepts a) = none := List.find?_eq_none.2 fun q hq => by simp [earlier q hq]
  simp [State.handler, map, List.find?_append, none, here]

theorem State.handler_of_none {s : State} {a : Word} (h : ∀ r ∈ s.busMap, r.accepts a = false) :
    s.handler a = none := by
  have none : s.busMap.find? (·.accepts a) = none := List.find?_eq_none.2 fun r hr => by simp [h r hr]
  rw [State.handler, none]; rfl

end Sys2Proof.Machine

namespace Sys2Proof

open Sys2Proof.Machine

/-- Settles O5: RAM returns what was written (`State.memWrite_peek_same`), and a write is seen at no other address
(`State.memWrite_peek_other`). -/
theorem memoryReadsWhatWasWritten : Obligations.MemoryReadsWhatWasWritten :=
  fun s _ v => ⟨fun wf hif hie ram => State.memWrite_peek_same wf hif hie ram v,
    fun _ hb device => s.memWrite_peek_other v hb device⟩

/-- Settles O6: the accesses of 0xFF0F and of 0xFFFF from the store's two own cases, and the record of the external bus
at those two and at any other address. -/
theorem blockDecodesTwoAddresses : Obligations.BlockDecodesTwoAddresses := by
  unfold Obligations.BlockDecodesTwoAddresses
  intro s a v
  have low (v : Byte) : (v &&& 0x1F).setWidth 5 = v.setWidth 5 := by
    ext i hi; interval_cases i <;> simp [BitVec.getLsbD]
  refine ⟨⟨rfl, (low v).symm, rfl⟩, ⟨rfl, rfl, rfl⟩, fun own => ⟨?_, ?_, ?_⟩, fun hif hie => ⟨?_, ?_, ?_, ?_⟩⟩
  · rcases own with rfl | rfl <;> rfl
  · exact BusEvent.filter_isExternal_cons_of_own own s.busLog
  · exact BusEvent.filter_isExternal_cons_of_own own s.busLog
  · exact s.peek_of_bus hif hie
  · rw [State.memWrite_ie, State.store_of_bus hif hie]; split <;> rfl
  · rw [State.memWrite_ifl, State.store_of_bus hif hie]; split <;> rfl
  · exact BusEvent.filter_isExternal_cons_of_bus hif hie s.busLog

/-- Settles O7: the handlers are searched in order; a store that no RAM answers changes nothing. -/
theorem firstAcceptingHandlerServes : Obligations.FirstAcceptingHandlerServes := by
  unfold Obligations.FirstAcceptingHandlerServes
  intro s a v hif hie
  refine ⟨fun before r after map earlier here => State.handler_of_first map earlier here, fun unmapped => ?_⟩
  have answers : s.handler a = none := State.handler_of_none unmapped
  have nowhere : s.store a v = s := by rw [State.store_of_bus hif hie, if_neg (by simp [answers])]
  refine ⟨?_, ?_, ?_, ?_⟩
  · rw [s.peek_of_bus hif hie, State.busAnswer_of_unmapped answers]
  · rw [State.memWrite_mem, nowhere]
  · rw [State.memWrite_ie, nowhere]
  · rw [State.memWrite_ifl, nowhere]

end Sys2Proof

/-! The 8-bit add and subtract with their carries (R245), and DAA on BCD bytes (R262). -/

namespace Sys2Proof.Machine

/-! ### Carries out of the byte -/

theorem add8_toNat (a b : Byte) (cin : Bool) :
    (add8 a b cin).1.toNat = (a.toNat + b.toNat + cin.toNat) % 256 := by
  rw [add8_fst]
  cases cin <;> simp [bit, BitVec.toNat_add]

theorem sub8_toInt (a b : Byte) (cin : Bool) :
    ((sub8 a b cin).1.toNat : Int) = ((a.toNat : Int) - b.toNat - cin.toNat) % 256 := by
  rw [sub8_fst]
  have := a.isLt
  have := b.isLt
  cases cin <;> simp [bit, BitVec.toNat_sub] <;> omega

/-- R245: C of a sum is the carry out of the byte. -/
theorem add8_c (a b : Byte) (cin : Bool) :
    (add8 a b cin).2.c = decide (256 ≤ a.toNat + b.toNat + cin.toNat) := by
  have h := getLsbD_add_xor (w := 9) (i := 8) (by decide) (a.setWidth 9) (b.setWidth 9) cin
  have := a.isLt
  have := b.isLt
  simp only [add8, h, BitVec.carry, BitVec.toNat_setWidth, decide_eq_decide]
  omega

/-- R245: C of a difference is the borrow of the whole byte. -/
theorem sub8_c (a b : Byte) (cin : Bool) :
    (sub8 a b cin).2.c = decide (a.toNat < b.toNat + cin.toNat) := by
  have h := getLsbD_sub_xor (w := 9) (i := 8) (by decide) (a.setWidth 9) (b.setWidth 9) cin
  simp only [sub8, h, BitVec.carry, BitVec.toNat_setWidth, BitVec.toNat_not, ← decide_not, decide_eq_decide]
  have := a.isLt
  have := b.isLt
  cases cin <;> simp <;> omega

theorem add8_snd (a b : Byte) (cin : Bool) :
    (add8 a b cin).2 = ⟨decide ((add8 a b cin).1 = 0), false,
      decide (16 ≤ a.toNat % 16 + b.toNat % 16 + cin.toNat), decide (256 ≤ a.toNat + b.toNat + cin.toNat)⟩ := by
  rw [← add8_h, ← add8_c]; rfl

theorem sub8_snd (a b : Byte) (cin : Bool) :
    (sub8 a b cin).2 = ⟨decide ((sub8 a b cin).1 = 0), true,
      decide (a.toNat % 16 < b.toNat % 16 + cin.toNat), decide (a.toNat < b.toNat + cin.toNat)⟩ := by
  rw [← sub8_h, ← sub8_c]; rfl

/-! ### BCD -/

/-- The two decimal digits of a number below 100 as the nibbles of a byte. -/
def bcd (n : Nat) : Byte := BitVec.ofNat 8 (n / 10 * 16 + n % 10)

theorem bcd_toNat {n : Nat} (h : n < 100) : (bcd n).toNat = n / 10 * 16 + n % 10 := by
  simp only [bcd, BitVec.toNat_ofNat]; omega

/-! Both corrections of DAA after an addition look at the sum byte; together with the carries out of the nibbles they
find where the decimal digits carry. -/

theorem highCorrection_iff {x y : Nat} (hx : x < 100) (hy : y < 100) :
    (256 ≤ x / 10 * 16 + x % 10 + (y / 10 * 16 + y % 10) ∨
      0x99 < (x / 10 * 16 + x % 10 + (y / 10 * 16 + y % 10)) % 256) ↔ 100 ≤ x + y := by
  have : 256 ≤ x / 10 * 16 + x % 10 + (y / 10 * 16 + y % 10) ∨
      (x / 10 * 16 + x % 10 + (y / 10 * 16 + y % 10)) % 256 = x / 10 * 16 + x % 10 + (y / 10 * 16 + y % 10) := by
    omega
  omega

theorem lowCorrection_iff (x y : Nat) :
    (16 ≤ (x / 10 * 16 + x % 10) % 16 + (y / 10 * 16 + y % 10) % 16 ∨
      9 < (x / 10 * 16 + x % 10 + (y / 10 * 16 + y % 10)) % 256 % 16) ↔ 10 ≤ x % 10 + y % 10 := by
  omega

/-- A decimal carry out of a digit is 6 short of a carry out of its nibble. -/
theorem corrected_sum_eq {x y : Nat} (hx : x < 100) (hy : y < 100) :
    (x / 10 * 16 + x % 10 + (y / 10 * 16 + y % 10) + (if 100 ≤ x + y then 0x60 else 0) +
      (if 10 ≤ x % 10 + y % 10 then 0x06 else 0)) % 256 = (x + y) % 100 / 10 * 16 + (x + y) % 100 % 10 := by
  have digits : x / 10 + y / 10 + (if 10 ≤ x % 10 + y % 10 then 1 else 0) = (x + y) / 10 := by split <;> omega
  split <;> split at digits <;> simp only [*, if_true, if_false] <;> omega

/-- So is a decimal borrow. -/
theorem corrected_difference_eq {x y : Nat} (hx : x < 100) (hy : y < 100) :
    ((x / 10 * 16 + x % 10 : Int) - (y / 10 * 16 + y % 10) - (if x < y then 0x60 else 0) -
      (if x % 10 < y % 10 then 0x06 else 0)) % 256 =
      ((x + 100 - y : Nat) : Int) % 100 / 10 * 16 + ((x + 100 - y : Nat) : Int) % 100 % 10 := by
  have digits : (x / 10 : Int) - y / 10 - (if x % 10 < y % 10 then 1 else 0) = ((x : Int) - y) / 10 := by
    split <;> omega
  split <;> split at digits <;> simp only [*, if_true, if_false] <;> omega

theorem daa8_add_bcd {x y : Nat} (hx : x < 100) (hy : y < 100) :
    (daa8 (add8 (bcd x) (bcd y) false).1 (add8 (bcd x) (bcd y) false).2).1 = bcd ((x + y) % 100) ∧
    (daa8 (add8 (bcd x) (bcd y) false).1 (add8 (bcd x) (bcd y) false).2).2.c = decide (100 ≤ x + y) := by
  have sum : (add8 (bcd x) (bcd y) false).1.toNat = (x / 10 * 16 + x % 10 + (y / 10 * 16 + y % 10)) % 256 := by
    simp [add8_toNat, bcd_toNat, hx, hy]
  have low : ((add8 (bcd x) (bcd y) false).2.h = true ∨ 9 < (add8 (bcd x) (bcd y) false).1.toNat % 16) ↔
      10 ≤ x % 10 + y % 10 := by
    rw [← lowCorrection_iff x y, sum, add8_h, bcd_toNat hx, bcd_toNat hy]; simp
  have high : ((add8 (bcd x) (bcd y) false).2.c = true ∨ 0x99 < (add8 (bcd x) (bcd y) false).1.toNat) ↔
      100 ≤ x + y := by
    rw [← highCorrection_iff hx hy, sum, add8_c, bcd_toNat hx, bcd_toNat hy]; simp
  constructor
  · have value := daa8_toInt_of_add (add8 (bcd x) (bcd y) false).1 (f := (add8 (bcd x) (bcd y) false).2) rfl
    simp only [low, high] at value
    rw [sum] at value
    rw [← BitVec.toNat_inj, bcd_toNat (by omega), ← corrected_sum_eq hx hy]
    split at value <;> split at value <;> simp only [*, if_true, if_false] <;> omega
  · rw [daa8_snd, Bool.eq_iff_iff, decide_eq_true_iff, ← high]
    simp [add8]

theorem daa8_sub_bcd {x y : Nat} (hx : x < 100) (hy : y < 100) :
    (daa8 (sub8 (bcd x) (bcd y) false).1 (sub8 (bcd x) (bcd y) false).2).1 = bcd ((x + 100 - y) % 100) ∧
    (daa8 (sub8 (bcd x) (bcd y) false).1 (sub8 (bcd x) (bcd y) false).2).2.c = decide (x < y) := by
  have difference : ((sub8 (bcd x) (bcd y) false).1.toNat : Int) =
      ((x / 10 * 16 + x % 10 : Int) - (y / 10 * 16 + y % 10)) % 256 := by
    simp [sub8_toInt, bcd_toNat, hx, hy]
  have low : (sub8 (bcd x) (bcd y) false).2.h = decide (x % 10 < y % 10) := by
    rw [sub8_h, bcd_toNat hx, bcd_toNat hy, decide_eq_decide]; simp; omega
  have high : (sub8 (bcd x) (bcd y) false).2.c = decide (x < y) := by
    rw [sub8_c, bcd_toNat hx, bcd_toNat hy, decide_eq_decide]; simp; omega
  constructor
  · have value := daa8_toInt_of_sub (sub8 (bcd x) (bcd y) false).1 (f := (sub8 (bcd x) (bcd y) false).2) rfl
    simp only [low, high, difference, decide_eq_true_eq] at value
    rw [← BitVec.toNat_inj, bcd_toNat (by omega), ← Int.ofNat_inj]
    push_cast
    rw [← corrected_difference_eq hx hy, value]
    split <;> split <;> omega
  · rw [daa8_snd]; exact high

end Sys2Proof.Machine

namespace Sys2Proof

open Sys2Proof.Machine

/-- Settles O9: the sums, and the carries and borrows of `add8_snd` and `sub8_snd`. -/
theorem addAndSubtractCarryIntoTheFlags : Obligations.AddAndSubtractCarryIntoTheFlags := by
  unfold Obligations.AddAndSubtractCarryIntoTheFlags
  refine fun a b cin => ⟨⟨add8_toNat a b cin, ?_⟩, sub8_toInt a b cin, ?_⟩
  · exact add8_snd a b cin
  · rw [sub8_snd]
    congr 1 <;> rw [decide_eq_decide] <;> omega

/-- Settles O11, by the add and the subtract apart. -/
theorem daaLeavesTheDecimalResult : Obligations.DaaLeavesTheDecimalResult := by
  unfold Obligations.DaaLeavesTheDecimalResult
  intro _ x y hx hy
  obtain ⟨sum, carry⟩ := daa8_add_bcd hx hy
  obtain ⟨difference, borrow⟩ := daa8_sub_bcd hx hy
  exact ⟨sum, carry, difference, borrow⟩

end Sys2Proof

/-! The 16-bit loads and arithmetic (R230 to R232, R280 to R282): the rows of the tables, ADD HL's carries, and the next
state of every segment. -/

namespace Sys2Proof.Machine

/-! ### The rows -/

/-- R230: the rows of `LD rr,n16`, at `00 rr 0001`. -/
theorem ofLdPairImm_hasEntry (p : Pair16) : (Instr.ofLdPairImm p).hasEntry (.base (0x01 + 16 * p.field)) 3 3 := by
  cases p <;> decide

/-- R280: the rows of `ADD HL,ss`, at `00 ss 1001`. -/
theorem ofAddHl_hasEntry (p : Pair16) : (Instr.ofAddHl p).hasEntry (.base (0x09 + 16 * p.field)) 2 2 := by
  cases p <;> decide

/-- R281: the rows of `INC ss`, at `00 ss 0011`. -/
theorem ofIncPair_hasEntry (p : Pair16) : (Instr.ofIncPair p).hasEntry (.base (0x03 + 16 * p.field)) 2 2 := by
  cases p <;> decide

/-- R282: the rows of `DEC ss`, at `00 ss 1011`. -/
theorem ofDecPair_hasEntry (p : Pair16) : (Instr.ofDecPair p).hasEntry (.base (0x0B + 16 * p.field)) 2 2 := by
  cases p <;> decide

/-! ### The operands and the sum -/

theorem pairsAreTheirHalves : PairsAreTheirHalves :=
  ⟨fun f _ => ⟨joinBytes_eq_or f.b f.c, joinBytes_eq_or f.d f.e, joinBytes_eq_or f.h f.l, rfl, rfl, rfl, rfl, rfl⟩,
    fun _ _ _ => ⟨rfl, rfl, rfl, rfl, rfl⟩⟩

/-- R280: H and C of ADD HL are the carries out of bits 11 and 15. -/
theorem add16_eq (a b : Word) (f : Flags) :
    add16 a b f = (a + b, ⟨f.z, false, decide (0x0FFF < a.toNat % 0x1000 + b.toNat % 0x1000),
      decide (0xFFFF < a.toNat + b.toNat)⟩) := by
  have carryInto {i : Nat} (hi : i < 17) := getLsbD_add_xor hi (a.setWidth 17) (b.setWidth 17) false
  simp only [bit_false, BitVec.add_zero] at carryInto
  have value : (a.setWidth 17 + b.setWidth 17).setWidth 16 = a + b := by simp [BitVec.setWidth_add]
  simp only [add16, value, carryInto (i := 12) (by decide), carryInto (i := 16) (by decide), BitVec.carry]
  have := a.isLt
  have := b.isLt
  congr 2
  simp; omega

end Sys2Proof.Machine

namespace Sys2Proof

open Sys2Proof.Machine

/-- Settles O15: the halves of the pairs, the rows, and the segments of each schedule. -/
theorem sixteenBitLoads : Obligations.SixteenBitLoads := by
  unfold Obligations.SixteenBitLoads
  simp only [exec_ofLdPairImm, exec_ldAtN16Sp, exec_ldSpHl]
  refine ⟨halvesAreTheBytes, pairsAreTheirHalves,
    fun p => ⟨ofLdPairImm_hasEntry p, fun s => ⟨fun m1 => ?_, fun m2 => ?_, fun lo m3 hlo => ?_⟩⟩, by decide, by decide,
    fun s => ⟨fun m1 => ⟨?_, ?_⟩, fun m2 => ⟨?_, ?_⟩, fun m3 => ?_, fun lo hi hlo hhi => ⟨fun m4 => ?_, fun m5 => ?_⟩⟩⟩
  · exact (ldPairImm_next_iff p).2 (.inl ⟨m1, rfl⟩)
  · exact (ldPairImm_next_iff p).2 (.inr (.inl ⟨m2, rfl⟩))
  · exact (ldPairImm_next_iff p).2 (.inr (.inr ⟨m3, lo, hlo, rfl⟩))
  · exact ldAbsSp_next_iff.2 (.inl ⟨m1, rfl⟩)
  · exact ldSpHl_next_iff.2 (.inl ⟨m1, rfl⟩)
  · exact ldAbsSp_next_iff.2 (.inr (.inl ⟨m2, rfl⟩))
  · exact ldSpHl_next_iff.2 (.inr ⟨m2, rfl⟩)
  · exact ldAbsSp_next_iff.2 (.inr (.inr (.inl ⟨m3, rfl⟩)))
  · exact ldAbsSp_next_iff.2 (.inr (.inr (.inr (.inl ⟨m4, hi, hhi, lo, hlo, rfl⟩))))
  · exact ldAbsSp_next_iff.2 (.inr (.inr (.inr (.inr ⟨m5, hi, hhi, lo, hlo, rfl⟩))))

/-- Settles O20: the halves of the pairs, the rows, the segments, and the sum of ADD HL in arithmetic (`add16_eq`). -/
theorem sixteenBitArithmetic : Obligations.SixteenBitArithmetic := by
  unfold Obligations.SixteenBitArithmetic
  simp only [exec_ofAddHl, exec_ofIncPair, exec_ofDecPair]
  refine ⟨pairsAreTheirHalves, fun p => ⟨ofAddHl_hasEntry p, ofIncPair_hasEntry p, ofDecPair_hasEntry p, fun s =>
    ⟨fun m1 => ⟨?_, ?_, ?_⟩, fun m2 => ⟨?_, ?_, ?_⟩⟩⟩, add16_eq⟩
  · exact (addHl_next_iff p).2 (.inl ⟨m1, rfl⟩)
  · exact (incPair_next_iff p).2 (.inl ⟨m1, rfl⟩)
  · exact (decPair_next_iff p).2 (.inl ⟨m1, rfl⟩)
  · exact (addHl_next_iff p).2 (.inr ⟨m2, rfl⟩)
  · exact (incPair_next_iff p).2 (.inr ⟨m2, rfl⟩)
  · exact (decPair_next_iff p).2 (.inr ⟨m2, rfl⟩)

end Sys2Proof

/-! HALT and STOP (R382, R384), PREFIX CB (R388, R149) and the unimplemented opcodes (R390). -/

namespace Sys2Proof.Machine

/-! ### HALT's three cases -/

theorem State.halt_of_ime {s : State} (h : s.ime = true) : s.halt = { s with halted := true } := if_pos h

theorem State.halt_of_pending {s : State} (h : s.ime = false) (p : s.pending ≠ 0) :
    s.halt = { s with haltBug := true } := by
  rw [State.halt, if_neg (by simp [h]), if_pos p]

theorem State.halt_of_quiet {s : State} (h : s.ime = false) (p : s.pending = 0) :
    s.halt = { s with halted := true } := by
  rw [State.halt, if_neg (by simp [h]), if_neg (by simp [p])]

/-! ### PREFIX CB -/

/-- R113: the count of a CB entry, as the instruction's own. -/
theorem cycles_decodeCb (b : Byte) : (decodeCb b).cycles = declaredCb b := by rw [Instr.cycles, opcode_decodeCb]

theorem cycles_decodeBase (op : Byte) : (decodeBase op).cycles = declaredBase op := by
  rw [Instr.cycles, opcode_decodeBase]

theorem State.dispatchCb_eq (s : State) (b : Byte) :
    s.dispatchCb b = { s with
      cont := s.cont.map fun c => { c with routine := .instr (decodeCb b), cbop := some b }
      cyclesLeft := s.cyclesLeft + ((decodeCb b).cycles - 2) } := by
  rw [cycles_decodeCb]; rfl

/-! ### The unimplemented opcodes -/

/-- R116: the eleven, by their opcodes. -/
theorem ofUndef_hasEntry (u : Undef) : (Instr.ofUndef u).hasEntry (.base u.byte) 1 1 ∧ lengthBase u.byte = 1 := by
  cases u <;> decide

theorem decodeBase_eq_ofUndef_iff (op : Byte) : (∃ u, decodeBase op = Instr.ofUndef u) ↔ ∃ u : Undef, op = u.byte := by
  refine exists_congr fun u => ⟨fun h => ?_, fun h => ?_⟩
  · exact Opcode.base.inj ((opcode_decodeBase op).symm.trans (h ▸ (ofUndef_hasEntry u).1.1))
  · exact h ▸ decodeBase_of_opcode (ofUndef_hasEntry u).1.1

theorem decodeCb_ne_ofUndef (b : Byte) (u : Undef) : decodeCb b ≠ Instr.ofUndef u := fun h =>
  Opcode.noConfusion ((opcode_decodeCb b).symm.trans (h ▸ (ofUndef_hasEntry u).1.1))

theorem exists_eq_undef_byte_iff (op : Byte) : (∃ u : Undef, op = u.byte) ↔
    op ∈ [0xD3, 0xDB, 0xDD, 0xE3, 0xE4, 0xEB, 0xEC, 0xED, 0xF4, 0xFC, 0xFD] := by
  constructor
  · rintro ⟨u, rfl⟩; cases u <;> decide
  · intro h
    simp only [List.mem_cons, List.not_mem_nil, or_false] at h
    rcases h with h | h | h | h | h | h | h | h | h | h | h
    exacts [⟨.xD3, h⟩, ⟨.xDB, h⟩, ⟨.xDD, h⟩, ⟨.xE3, h⟩, ⟨.xE4, h⟩, ⟨.xEB, h⟩, ⟨.xEC, h⟩, ⟨.xED, h⟩, ⟨.xF4, h⟩,
      ⟨.xFC, h⟩, ⟨.xFD, h⟩]

end Sys2Proof.Machine

namespace Sys2Proof

open Sys2Proof.Machine

/-- Settles O30: the rows, the three cases of `State.halt`, and STOP's one segment. -/
theorem haltAndStop : Obligations.HaltAndStop := by
  unfold Obligations.HaltAndStop
  simp only [exec_halt, exec_stop]
  refine ⟨by decide, by decide, by decide, fun s m1 => ?_⟩
  have halts : halt s = .next s.halt := halt_next_iff.2 ⟨m1, rfl⟩
  refine ⟨fun ime => ?_, fun ime pending => ?_, fun ime quiet => ?_, stop_next_iff.2 ⟨m1, rfl⟩⟩
  · rw [halts, State.halt_of_ime ime]
  · rw [halts, State.halt_of_pending ime pending]
  · rw [halts, State.halt_of_quiet ime quiet]

/-- Settles O31: the row, the empty M1, and the dispatch of M2 (`State.dispatchCb_eq`). -/
theorem cbPrefixSelectsTheCbRoutine : Obligations.CbPrefixSelectsTheCbRoutine := by
  unfold Obligations.CbPrefixSelectsTheCbRoutine
  simp only [exec_prefixCB]
  refine ⟨by decide, fun s c hc => ⟨fun m1 => ?_, fun m2 => ?_⟩⟩
  · exact prefixCB_next_iff.2 (.inl ⟨by simp [hc, m1], rfl⟩)
  · refine prefixCB_next_iff.2 (.inr ⟨by simp [hc, m2], ?_⟩)
    rw [State.dispatchCb_eq]
    simp [State.fetched, hc]

/-- Settles O32: the opcodes of the unimplemented entries are the eleven of the list, and their one segment reports. -/
theorem unimplementedOpcodesReport : Obligations.UnimplementedOpcodesReport := by
  unfold Obligations.UnimplementedOpcodesReport
  refine ⟨fun op => (decodeBase_eq_ofUndef_iff op).trans (exists_eq_undef_byte_iff op), decodeCb_ne_ofUndef,
    fun u => ⟨(ofUndef_hasEntry u).1, (ofUndef_hasEntry u).2, fun s c op a hc m1 hop ha => ?_⟩⟩
  rw [exec_ofUndef]
  exact undef_next_iff.2 ⟨by simp [hc, m1], op, by simp [hc, hop], a, by simp [hc, ha], rfl⟩

end Sys2Proof

/-! What one segment of an instruction can do, said once: at most one bus access, and then a computation on the
registers, PC and the locals, or the one change of control state that a few instructions make. The frames follow. -/

namespace Sys2Proof.Machine

/-! ### The parts of a segment -/

/-- What a segment leaves of the continuation, the dispatch of a CB routine apart: all but the locals. -/
def State.stand (s : State) : Option (Routine × Nat × Option Word × Option Byte × Option Byte) :=
  s.cont.map fun c => (c.routine, c.k, c.opAddr, c.op, c.cbop)

@[simp] theorem State.setTmp_stand (s : State) (v : Byte) : (s.setTmp v).stand = s.stand := by
  simp [State.stand, Function.comp_def]
@[simp] theorem State.setLo_stand (s : State) (v : Byte) : (s.setLo v).stand = s.stand := by
  simp [State.stand, Function.comp_def]
@[simp] theorem State.setHi_stand (s : State) (v : Byte) : (s.setHi v).stand = s.stand := by
  simp [State.stand, Function.comp_def]
@[simp] theorem State.setReg_stand (s : State) (r : Reg8) (v : Byte) : (s.setReg r v).stand = s.stand := rfl
@[simp] theorem State.setPair_stand (s : State) (p : Pair16) (v : Word) : (s.setPair p v).stand = s.stand := rfl
@[simp] theorem State.setStackPair_stand (s : State) (q : StackPair) (v : Word) :
    (s.setStackPair q v).stand = s.stand := rfl
@[simp] theorem State.setSp_stand (s : State) (v : Word) : (s.setSp v).stand = s.stand := rfl
@[simp] theorem State.setFlags_stand (s : State) (f : Flags) : (s.setFlags f).stand = s.stand := rfl
@[simp] theorem State.setPc_stand (s : State) (v : Word) : (s.setPc v).stand = s.stand := rfl
@[simp] theorem State.noteRead_stand (s : State) (a : Word) : (s.noteRead a).stand = s.stand := rfl
theorem State.stand_eq_of_cont {s t : State} (h : t.cont = s.cont) : t.stand = s.stand :=
  congrArg (Option.map _) h

/-- The bus access of a segment, where it stores to the given address or to none; M1 makes none, its bus access is the
opcode fetch (R150). -/
inductive State.Accesses (s : State) : Option Word → State → Prop
  | quiet : s.Accesses none s
  | read (a : Word) : ¬s.standsAt 0 → s.Accesses none (s.noteRead a)
  | write (a : Word) (v : Byte) : ¬s.standsAt 0 → s.Accesses (some a) (s.memWrite a v)

/-- Nothing but the registers, PC and the locals is new in `t`, and `n` cycles are added. -/
def State.Computes (u : State) (n : Nat) (t : State) : Prop :=
  ∃ r p c, t = { u with regs := r, pc := p, cont := c, cyclesLeft := u.cyclesLeft + n } ∧ t.stand = u.stand

/-- Where a conditional instruction tests its condition, and the cycles it then adds (R152, R351 to R361). -/
def branchOf : Form → Option (Cond × Nat × Nat)
  | .jrCc cc => some (cc, 1, 1)
  | .jpCc cc => some (cc, 2, 1)
  | .callCc cc => some (cc, 2, 3)
  | .retCc cc => some (cc, 1, 3)
  | _ => none

/-- The cycles the segment at which the state stands adds. -/
def extraCycles (f : Form) (s : State) : Nat :=
  match branchOf f with
  | some (cc, k, n) => if s.standsAt k ∧ s.cond cc = true then n else 0
  | none => 0

/-- What a segment does after its bus access: it computes, or it is the one segment of a control instruction, the last
of RETI, or the dispatch of PREFIX CB. -/
inductive State.Operates (u : State) : Nat → Form → State → Prop
  | computes {n f t} : u.Computes n t → u.Operates n f t
  | dispatches (p b) : u.Operates 0 .prefixCB ((u.setPc p).dispatchCb b)
  | halts : u.Operates 0 .halt u.halt
  | stops : u.Operates 0 .stop { u.setPc (u.pc + 1) with stopped := true }
  | disables : u.Operates 0 .di { u with ime := false }
  | enables : u.Operates 0 .ei { u with delay := true }
  | reports (w e) : u.Operates 0 (.undef w) { u with diagLog := u.diagLog ++ [e] }
  | returns (a) : u.Operates 0 .reti { u.setPc a with ime := true }

/-- The effect of a segment: one bus access, stored where `storeAddr` says, and what follows it. -/
def State.Effect (f : Form) (s t : State) : Prop :=
  ∃ u, s.Accesses (storeAddr f s) u ∧ u.Operates (extraCycles f s) f t

theorem State.not_standsAt_zero {s : State} {k : Nat} (h : s.standsAt (k + 1)) : ¬s.standsAt 0 :=
  fun h' => Nat.succ_ne_zero k (Option.some.inj (h.symm.trans h'))

theorem State.Effect.quiet {f : Form} {s t : State} (h : storeAddr f s = none)
    (op : s.Operates (extraCycles f s) f t) : State.Effect f s t := ⟨s, h ▸ .quiet, op⟩

theorem State.Effect.read {f : Form} {s t : State} {k : Nat} {a : Word} (hk : s.standsAt (k + 1))
    (h : storeAddr f s = none) (op : (s.noteRead a).Operates (extraCycles f s) f t) : State.Effect f s t :=
  ⟨_, h ▸ .read a (State.not_standsAt_zero hk), op⟩

theorem State.Effect.write {f : Form} {s t : State} {k : Nat} {a : Word} {v : Byte} (hk : s.standsAt (k + 1))
    (h : storeAddr f s = some a) (op : (s.memWrite a v).Operates (extraCycles f s) f t) : State.Effect f s t :=
  ⟨_, h ▸ .write a v (State.not_standsAt_zero hk), op⟩

/-! ### Where a segment stores and what it adds, by where the state stands -/

theorem State.atSegment_same {s : State} {k : Nat} (h : s.standsAt k) (a : Option Word) : s.atSegment k a = a :=
  if_pos h

theorem State.atSegment_other {s : State} {k j : Nat} (h : s.standsAt j) (ne : j ≠ k) (a : Option Word) :
    s.atSegment k a = none := if_neg fun e => ne (Option.some.inj (h.symm.trans e))

theorem State.localAddr_of {s : State} {hi lo : Byte} (hhi : s.holdsHi hi) (hlo : s.holdsLo lo) :
    s.localAddr = some (joinBytes hi lo) := by
  simp [State.localAddr, hhi, hlo]

theorem State.branchIf_eq (s : State) (cc : Cond) (n : Nat) :
    s.branchIf cc n = { s with cyclesLeft := s.cyclesLeft + if s.cond cc then n else 0 } := by
  unfold State.branchIf; split <;> rfl

theorem State.Operates.branchIf {f : Form} {u v s : State} {cc : Cond} {k n : Nat} (hk : s.standsAt k)
    (hf : branchOf f = some (cc, k, n)) (hv : u.Computes 0 v) (flags : v.regs = s.regs) :
    u.Operates (extraCycles f s) f (v.branchIf cc n) := by
  obtain ⟨r, p, c, rfl, stand⟩ := hv
  obtain rfl : r = s.regs := flags
  have extra : extraCycles f s = if s.cond cc then n else 0 := by
    rw [extraCycles, hf]
    exact if_congr (and_iff_right hk) rfl rfl
  refine .computes ⟨s.regs, p, c, ?_, (State.stand_eq_of_cont (by simp)).trans stand⟩
  rw [State.branchIf_eq, extra]
  rfl

/-- Away from the segment that tests the condition, no cycle is added. -/
theorem State.Operates.of_other {f : Form} {u s t : State} {cc : Cond} {j k n : Nat} (hj : s.standsAt j)
    (hf : branchOf f = some (cc, k, n)) (ne : j ≠ k) (ht : u.Computes 0 t) : u.Operates (extraCycles f s) f t := by
  have none : extraCycles f s = 0 := by
    rw [extraCycles, hf]
    exact if_neg fun e => ne (Option.some.inj (hj.symm.trans e.1))
  exact .computes (none ▸ ht)

/-! ### The families -/

/-- Every segment of every family. The families stand in groups of one shape: the kind of each segment (without a bus
access, with a read, with a store), and the locals it reads. -/
theorem Form.run_effect (f : Form) {s t : State} (h : Form.run f s = .next t) : State.Effect f s t := by
  cases f with
  | nop | ldRegReg | aluReg | incReg | decReg | daa | cpl | scf | ccf | jpHl | rlca | rrca | rla | rra =>
    simp only [Form.run, nop_next_iff, ldRegReg_next_iff, aluReg_next_iff, incReg_next_iff, decReg_next_iff,
      daa_next_iff, cpl_next_iff, scf_next_iff, ccf_next_iff, jpHl_next_iff, rotateA_next_iff] at h
    obtain ⟨_, rfl⟩ := h
    exact .quiet rfl (.computes ⟨_, _, _, rfl, rfl⟩)
  | ldSpHl | addHl | incPair | decPair | rotReg | bitReg | resReg | setReg =>
    simp only [Form.run, ldSpHl_next_iff, addHl_next_iff, incPair_next_iff, decPair_next_iff, rotReg_next_iff,
      bitReg_next_iff, resReg_next_iff, setReg_next_iff] at h
    rcases h with ⟨_, rfl⟩ | ⟨_, rfl⟩ <;> exact .quiet rfl (.computes ⟨_, _, _, rfl, rfl⟩)
  | ldRegImm | ldRegHl | ldAInd | ldAHlInc | ldAHlDec | ldAC | aluHl | aluImm =>
    simp only [Form.run, ldRegImm_next_iff, ldRegHl_next_iff, ldAInd_next_iff, ldAHlInc_next_iff, ldAHlDec_next_iff,
      ldAC_next_iff, aluHl_next_iff, aluImm_next_iff] at h
    rcases h with ⟨_, rfl⟩ | ⟨m2, rfl⟩
    · exact .quiet rfl (.computes ⟨_, _, _, rfl, rfl⟩)
    · exact .read m2 rfl (.computes ⟨_, _, _, rfl, rfl⟩)
  | halt =>
    obtain ⟨_, rfl⟩ := halt_next_iff.1 h
    exact .quiet rfl .halts
  | stop =>
    obtain ⟨_, rfl⟩ := stop_next_iff.1 h
    exact .quiet rfl .stops
  | di =>
    obtain ⟨_, rfl⟩ := di_next_iff.1 h
    exact .quiet rfl .disables
  | ei =>
    obtain ⟨_, rfl⟩ := ei_next_iff.1 h
    exact .quiet rfl .enables
  | undef =>
    obtain ⟨_, op, _, a, _, rfl⟩ := undef_next_iff.1 h
    exact .quiet rfl (.reports ..)
  | prefixCB =>
    rcases prefixCB_next_iff.1 h with ⟨_, rfl⟩ | ⟨m2, rfl⟩
    · exact .quiet rfl (.computes ⟨_, _, _, rfl, rfl⟩)
    · exact .read m2 rfl (.dispatches ..)
  | ldHlReg | ldIndA | ldHlIncA | ldHlDecA | ldCA =>
    simp only [Form.run, ldHlReg_next_iff, ldIndA_next_iff, ldHlIncA_next_iff, ldHlDecA_next_iff, ldCA_next_iff] at h
    rcases h with ⟨m1, rfl⟩ | ⟨m2, rfl⟩
    · exact .quiet (State.atSegment_other m1 (by decide) _) (.computes ⟨_, _, _, rfl, rfl⟩)
    · exact .write m2 (State.atSegment_same m2 _) (.computes ⟨_, _, _, rfl, rfl⟩)
  | ldHlImm | incHl | decHl =>
    simp only [Form.run, ldHlImm_next_iff, incHl_next_iff, decHl_next_iff] at h
    rcases h with ⟨m1, rfl⟩ | ⟨m2, rfl⟩ | ⟨m3, v, _, rfl⟩
    · exact .quiet (State.atSegment_other m1 (by decide) _) (.computes ⟨_, _, _, rfl, rfl⟩)
    · exact .read m2 (State.atSegment_other m2 (by decide) _) (.computes ⟨_, _, _, rfl, by simp⟩)
    · exact .write m3 (State.atSegment_same m3 _) (.computes ⟨_, _, _, rfl, rfl⟩)
  | ldhImmA =>
    rcases ldhImmA_next_iff.1 h with ⟨m1, rfl⟩ | ⟨m2, rfl⟩ | ⟨m3, v, hv, rfl⟩
    · exact .quiet (State.atSegment_other m1 (by decide) _) (.computes ⟨_, _, _, rfl, rfl⟩)
    · exact .read m2 (State.atSegment_other m2 (by decide) _) (.computes ⟨_, _, _, rfl, by simp⟩)
    · exact .write m3 ((State.atSegment_same m3 _).trans (by simp [hv])) (.computes ⟨_, _, _, rfl, rfl⟩)
  | ldhAImm | ldPairImm | pop =>
    simp only [Form.run, ldhAImm_next_iff, ldPairImm_next_iff, pop_next_iff] at h
    rcases h with ⟨_, rfl⟩ | ⟨m2, rfl⟩ | ⟨m3, v, _, rfl⟩
    · exact .quiet rfl (.computes ⟨_, _, _, rfl, rfl⟩)
    · exact .read m2 rfl (.computes ⟨_, _, _, rfl, by simp⟩)
    · exact .read m3 rfl (.computes ⟨_, _, _, rfl, by simp⟩)
  | jr | ldHlSp =>
    simp only [Form.run, jr_next_iff, ldHlSp_next_iff] at h
    rcases h with ⟨_, rfl⟩ | ⟨m2, rfl⟩ | ⟨_, v, _, rfl⟩
    · exact .quiet rfl (.computes ⟨_, _, _, rfl, rfl⟩)
    · exact .read m2 rfl (.computes ⟨_, _, _, rfl, by simp⟩)
    · exact .quiet rfl (.computes ⟨_, _, _, rfl, rfl⟩)
  | bitHl =>
    rcases (bitHl_next_iff _).1 h with ⟨_, rfl⟩ | ⟨_, rfl⟩ | ⟨m3, rfl⟩
    · exact .quiet rfl (.computes ⟨_, _, _, rfl, rfl⟩)
    · exact .quiet rfl (.computes ⟨_, _, _, rfl, rfl⟩)
    · exact .read m3 rfl (.computes ⟨_, _, _, rfl, by simp⟩)
  | addSp =>
    rcases addSp_next_iff.1 h with ⟨_, rfl⟩ | ⟨m2, rfl⟩ | ⟨_, rfl⟩ | ⟨_, v, _, rfl⟩
    · exact .quiet rfl (.computes ⟨_, _, _, rfl, rfl⟩)
    · exact .read m2 rfl (.computes ⟨_, _, _, rfl, by simp⟩)
    · exact .quiet rfl (.computes ⟨_, _, _, rfl, rfl⟩)
    · exact .quiet rfl (.computes ⟨_, _, _, rfl, rfl⟩)
  | rotHl | resHl | setHl =>
    simp only [Form.run, rotHl_next_iff, resHl_next_iff, setHl_next_iff] at h
    rcases h with ⟨m1, rfl⟩ | ⟨m2, rfl⟩ | ⟨m3, rfl⟩ | ⟨m4, v, _, rfl⟩
    · exact .quiet (State.atSegment_other m1 (by decide) _) (.computes ⟨_, _, _, rfl, rfl⟩)
    · exact .quiet (State.atSegment_other m2 (by decide) _) (.computes ⟨_, _, _, rfl, rfl⟩)
    · exact .read m3 (State.atSegment_other m3 (by decide) _) (.computes ⟨_, _, _, rfl, by simp⟩)
    · exact .write m4 (State.atSegment_same m4 _) (.computes ⟨_, _, _, rfl, rfl⟩)
  | ldAAbs =>
    rcases ldAAbs_next_iff.1 h with ⟨_, rfl⟩ | ⟨m2, rfl⟩ | ⟨m3, rfl⟩ | ⟨m4, hi, _, lo, _, rfl⟩
    · exact .quiet rfl (.computes ⟨_, _, _, rfl, rfl⟩)
    · exact .read m2 rfl (.computes ⟨_, _, _, rfl, by simp⟩)
    · exact .read m3 rfl (.computes ⟨_, _, _, rfl, by simp⟩)
    · exact .read m4 rfl (.computes ⟨_, _, _, rfl, rfl⟩)
  | ldAbsA =>
    rcases ldAbsA_next_iff.1 h with ⟨m1, rfl⟩ | ⟨m2, rfl⟩ | ⟨m3, rfl⟩ | ⟨m4, hi, hhi, lo, hlo, rfl⟩
    · exact .quiet (State.atSegment_other m1 (by decide) _) (.computes ⟨_, _, _, rfl, rfl⟩)
    · exact .read m2 (State.atSegment_other m2 (by decide) _) (.computes ⟨_, _, _, rfl, by simp⟩)
    · exact .read m3 (State.atSegment_other m3 (by decide) _) (.computes ⟨_, _, _, rfl, by simp⟩)
    · exact .write m4 ((State.atSegment_same m4 _).trans (State.localAddr_of hhi hlo)) (.computes ⟨_, _, _, rfl, rfl⟩)
  | ldAbsSp =>
    rcases ldAbsSp_next_iff.1 h with
      ⟨m1, rfl⟩ | ⟨m2, rfl⟩ | ⟨m3, rfl⟩ | ⟨m4, hi, hhi, lo, hlo, rfl⟩ | ⟨m5, hi, hhi, lo, hlo, rfl⟩
    · exact .quiet (by simp [storeAddr, State.atSegment_other m1]) (.computes ⟨_, _, _, rfl, rfl⟩)
    · exact .read m2 (by simp [storeAddr, State.atSegment_other m2]) (.computes ⟨_, _, _, rfl, by simp⟩)
    · exact .read m3 (by simp [storeAddr, State.atSegment_other m3]) (.computes ⟨_, _, _, rfl, by simp⟩)
    · exact .write m4 (by simp [storeAddr, State.atSegment_same m4, State.localAddr_of hhi hlo])
        (.computes ⟨_, _, _, rfl, rfl⟩)
    · exact .write m5
        (by simp [storeAddr, State.atSegment_other m5, State.atSegment_same m5, State.localAddr_of hhi hlo])
        (.computes ⟨_, _, _, rfl, rfl⟩)
  | push | rst =>
    simp only [Form.run, push_next_iff, rst_next_iff] at h
    rcases h with ⟨m1, rfl⟩ | ⟨m2, rfl⟩ | ⟨m3, rfl⟩ | ⟨m4, rfl⟩
    · exact .quiet (by simp [storeAddr, State.atSegment_other m1]) (.computes ⟨_, _, _, rfl, rfl⟩)
    · exact .quiet (by simp [storeAddr, State.atSegment_other m2]) (.computes ⟨_, _, _, rfl, rfl⟩)
    · exact .write m3 (by simp [storeAddr, State.atSegment_same m3]) (.computes ⟨_, _, _, rfl, rfl⟩)
    · exact .write m4 (by simp [storeAddr, State.atSegment_other m4, State.atSegment_same m4])
        (.computes ⟨_, _, _, rfl, rfl⟩)
  | call =>
    rcases call_next_iff.1 h with
      ⟨m1, rfl⟩ | ⟨m2, rfl⟩ | ⟨m3, rfl⟩ | ⟨m4, rfl⟩ | ⟨m5, rfl⟩ | ⟨m6, hi, _, lo, _, rfl⟩
    · exact .quiet (by simp [storeAddr, State.atSegment_other m1]) (.computes ⟨_, _, _, rfl, rfl⟩)
    · exact .read m2 (by simp [storeAddr, State.atSegment_other m2]) (.computes ⟨_, _, _, rfl, by simp⟩)
    · exact .read m3 (by simp [storeAddr, State.atSegment_other m3]) (.computes ⟨_, _, _, rfl, by simp⟩)
    · exact .quiet (by simp [storeAddr, State.atSegment_other m4]) (.computes ⟨_, _, _, rfl, rfl⟩)
    · exact .write m5 (by simp [storeAddr, State.atSegment_same m5]) (.computes ⟨_, _, _, rfl, rfl⟩)
    · exact .write m6 (by simp [storeAddr, State.atSegment_other m6, State.atSegment_same m6])
        (.computes ⟨_, _, _, rfl, rfl⟩)
  | jp | ret =>
    simp only [Form.run, jp_next_iff, returnFrom_next_iff] at h
    rcases h with ⟨_, rfl⟩ | ⟨m2, rfl⟩ | ⟨m3, rfl⟩ | ⟨_, hi, _, lo, _, rfl⟩
    · exact .quiet rfl (.computes ⟨_, _, _, rfl, rfl⟩)
    · exact .read m2 rfl (.computes ⟨_, _, _, rfl, by simp⟩)
    · exact .read m3 rfl (.computes ⟨_, _, _, rfl, by simp⟩)
    · exact .quiet rfl (.computes ⟨_, _, _, rfl, rfl⟩)
  | reti =>
    rcases returnFromInterrupt_next_iff.1 h with ⟨_, rfl⟩ | ⟨m2, rfl⟩ | ⟨m3, rfl⟩ | ⟨_, hi, _, lo, _, rfl⟩
    · exact .quiet rfl (.computes ⟨_, _, _, rfl, rfl⟩)
    · exact .read m2 rfl (.computes ⟨_, _, _, rfl, by simp⟩)
    · exact .read m3 rfl (.computes ⟨_, _, _, rfl, by simp⟩)
    · exact .quiet rfl (.returns _)
  | jrCc cc =>
    rcases (jrCc_next_iff cc).1 h with ⟨m1, rfl⟩ | ⟨m2, rfl⟩ | ⟨m3, v, _, rfl⟩
    · exact .quiet rfl (.of_other m1 rfl (by decide) ⟨_, _, _, rfl, rfl⟩)
    · exact .read m2 rfl (.branchIf m2 rfl ⟨_, _, _, rfl, by simp⟩ rfl)
    · exact .quiet rfl (.of_other m3 rfl (by decide) ⟨_, _, _, rfl, rfl⟩)
  | jpCc cc =>
    rcases (jpCc_next_iff cc).1 h with ⟨m1, rfl⟩ | ⟨m2, rfl⟩ | ⟨m3, rfl⟩ | ⟨m4, hi, _, lo, _, rfl⟩
    · exact .quiet rfl (.of_other m1 rfl (by decide) ⟨_, _, _, rfl, rfl⟩)
    · exact .read m2 rfl (.of_other m2 rfl (by decide) ⟨_, _, _, rfl, by simp⟩)
    · exact .read m3 rfl (.branchIf m3 rfl ⟨_, _, _, rfl, by simp⟩ rfl)
    · exact .quiet rfl (.of_other m4 rfl (by decide) ⟨_, _, _, rfl, rfl⟩)
  | retCc cc =>
    rcases (retCc_next_iff cc).1 h with ⟨m1, rfl⟩ | ⟨m2, rfl⟩ | ⟨m3, rfl⟩ | ⟨m4, rfl⟩ | ⟨m5, hi, _, lo, _, rfl⟩
    · exact .quiet rfl (.of_other m1 rfl (by decide) ⟨_, _, _, rfl, rfl⟩)
    · exact .quiet rfl (.branchIf m2 rfl ⟨_, _, _, rfl, rfl⟩ rfl)
    · exact .read m3 rfl (.of_other m3 rfl (by decide) ⟨_, _, _, rfl, by simp⟩)
    · exact .read m4 rfl (.of_other m4 rfl (by decide) ⟨_, _, _, rfl, by simp⟩)
    · exact .quiet rfl (.of_other m5 rfl (by decide) ⟨_, _, _, rfl, rfl⟩)
  | callCc cc =>
    rcases (callCc_next_iff cc).1 h with
      ⟨m1, rfl⟩ | ⟨m2, rfl⟩ | ⟨m3, rfl⟩ | ⟨m4, rfl⟩ | ⟨m5, rfl⟩ | ⟨m6, hi, _, lo, _, rfl⟩
    · exact .quiet (by simp [storeAddr, State.atSegment_other m1]) (.of_other m1 rfl (by decide) ⟨_, _, _, rfl, rfl⟩)
    · exact .read m2 (by simp [storeAddr, State.atSegment_other m2])
        (.of_other m2 rfl (by decide) ⟨_, _, _, rfl, by simp⟩)
    · exact .read m3 (by simp [storeAddr, State.atSegment_other m3]) (.branchIf m3 rfl ⟨_, _, _, rfl, by simp⟩ rfl)
    · exact .quiet (by simp [storeAddr, State.atSegment_other m4]) (.of_other m4 rfl (by decide) ⟨_, _, _, rfl, rfl⟩)
    · exact .write m5 (by simp [storeAddr, State.atSegment_same m5])
        (.of_other m5 rfl (by decide) ⟨_, _, _, rfl, rfl⟩)
    · exact .write m6 (by simp [storeAddr, State.atSegment_other m6, State.atSegment_same m6])
        (.of_other m6 rfl (by decide) ⟨_, _, _, rfl, rfl⟩)

theorem exec_effect {i : Instr} {s t : State} (h : exec i s = .next t) : State.Effect i.form s t :=
  Form.run_effect i.form (exec_eq_run i s ▸ h)

/-! ### What an access leaves -/

/-- Nothing differs but IE, IF, the memory and the record of the bus. -/
structure State.SameBlock (s u : State) : Prop where
  regs : u.regs = s.regs
  pc : u.pc = s.pc
  ime : u.ime = s.ime
  delay : u.delay = s.delay
  halted : u.halted = s.halted
  stopped : u.stopped = s.stopped
  haltBug : u.haltBug = s.haltBug
  cyclesLeft : u.cyclesLeft = s.cyclesLeft
  pendingVector : u.pendingVector = s.pendingVector
  cont : u.cont = s.cont
  diagLog : u.diagLog = s.diagLog
  busMap : u.busMap = s.busMap
  clock : u.clock = s.clock
  inputs : u.inputs = s.inputs
  params : u.params = s.params

theorem State.Accesses.sameBlock {s u : State} {a : Option Word} (h : s.Accesses a u) : s.SameBlock u := by
  cases h with
  | quiet | read => constructor <;> rfl
  | write => constructor <;> simp

/-- R85: at most one transaction. -/
theorem State.Accesses.busLog {s u : State} {a : Option Word} (h : s.Accesses a u) :
    u.busLog = s.busLog ∨ ∃ e, u.busLog = e :: s.busLog := by
  cases h with
  | quiet => exact .inl rfl
  | read | write => exact .inr ⟨_, rfl⟩

/-- M1 makes no access. -/
theorem State.Accesses.eq_of_M1 {s u : State} {a : Option Word} (h : s.Accesses a u) (m1 : s.standsAt 0) : u = s := by
  cases h with
  | quiet => rfl
  | read a m | write a v m => exact absurd m1 m

theorem State.Accesses.content {s u : State} {a : Option Word} (h : s.Accesses a u) {b : Word} (hb : some b ≠ a) :
    u.content b = s.content b := by
  cases h with
  | quiet | read => rfl
  | write a v _ => exact s.memWrite_content_other a b v fun e => hb (e ▸ rfl)

theorem State.Accesses.ie {s u : State} {a : Option Word} (h : s.Accesses a u) (ha : a ≠ some ieAddr) :
    u.ie = s.ie := by
  cases h with
  | quiet | read => rfl
  | write a v _ =>
    rcases s.store_cases a v with ⟨_, e⟩ | ⟨_, own, e⟩ | ⟨_, _, _, e⟩ | ⟨_, _, _, e⟩
    · simp [e]
    · exact absurd (own ▸ rfl) ha
    · simp [e]
    · simp [e]

theorem State.Accesses.ifl {s u : State} {a : Option Word} (h : s.Accesses a u) (ha : a ≠ some ifAddr) :
    u.ifl = s.ifl := by
  cases h with
  | quiet | read => rfl
  | write a v _ =>
    rcases s.store_cases a v with ⟨own, e⟩ | ⟨_, _, e⟩ | ⟨_, _, _, e⟩ | ⟨_, _, _, e⟩
    · exact absurd (own ▸ rfl) ha
    · simp [e]
    · simp [e]
    · simp [e]

/-! ### What follows the access leaves -/

/-- Nothing that the block's bus port or its inputs hold differs. -/
structure State.SameOutside (u t : State) : Prop where
  ie : t.ie = u.ie
  ifl : t.ifl = u.ifl
  pendingVector : t.pendingVector = u.pendingVector
  mem : t.mem = u.mem
  busMap : t.busMap = u.busMap
  busLog : t.busLog = u.busLog
  clock : t.clock = u.clock
  inputs : t.inputs = u.inputs
  params : t.params = u.params

theorem State.SameOutside.content {u t : State} (h : u.SameOutside t) (b : Word) : t.content b = u.content b := by
  simp [State.content, State.ifRead, State.ieRead, h.ie, h.ifl, h.mem, h.params]

theorem State.halt_cases (u : State) : u.halt = { u with halted := true } ∨
    u.ime = false ∧ u.pending ≠ 0 ∧ u.halt = { u with haltBug := true } := by
  by_cases hi : u.ime = true
  · exact .inl (State.halt_of_ime hi)
  · have ime := Bool.eq_false_of_not_eq_true hi
    by_cases hp : u.pending = 0
    · exact .inl (State.halt_of_quiet ime hp)
    · exact .inr ⟨ime, hp, State.halt_of_pending ime hp⟩

namespace State.Operates

variable {u t : State} {n : Nat} {f : Form}

theorem sameOutside (h : u.Operates n f t) : u.SameOutside t := by
  cases h with
  | computes h => obtain ⟨r, p, c, rfl, _⟩ := h; constructor <;> rfl
  | halts => rcases u.halt_cases with e | ⟨_, _, e⟩ <;> rw [e] <;> constructor <;> rfl
  | dispatches | stops | disables | enables | reports | returns => constructor <;> rfl

/-- R38: DI and RETI write IME. -/
theorem ime (h : u.Operates n f t) (di : f ≠ .di) (reti : f ≠ .reti) : t.ime = u.ime := by
  cases h with
  | computes h => obtain ⟨r, p, c, rfl, _⟩ := h; rfl
  | halts => rcases u.halt_cases with e | ⟨_, _, e⟩ <;> rw [e]
  | disables => exact absurd rfl di
  | returns => exact absurd rfl reti
  | dispatches | stops | enables | reports => rfl

/-- R44: EI sets the delay. -/
theorem delay (h : u.Operates n f t) (ei : f ≠ .ei) : t.delay = u.delay := by
  cases h with
  | computes h => obtain ⟨r, p, c, rfl, _⟩ := h; rfl
  | halts => rcases u.halt_cases with e | ⟨_, _, e⟩ <;> rw [e]
  | enables => exact absurd rfl ei
  | dispatches | stops | disables | reports | returns => rfl

/-- R43: HALT sets `halted` or `haltBug`. -/
theorem halted (h : u.Operates n f t) (halt : f ≠ .halt) : t.halted = u.halted ∧ t.haltBug = u.haltBug := by
  cases h with
  | computes h => obtain ⟨r, p, c, rfl, _⟩ := h; exact ⟨rfl, rfl⟩
  | halts => exact absurd rfl halt
  | dispatches | stops | disables | enables | reports | returns => exact ⟨rfl, rfl⟩

/-- R43: STOP sets `stopped`. -/
theorem stopped (h : u.Operates n f t) (stop : f ≠ .stop) : t.stopped = u.stopped := by
  cases h with
  | computes h => obtain ⟨r, p, c, rfl, _⟩ := h; rfl
  | halts => rcases u.halt_cases with e | ⟨_, _, e⟩ <;> rw [e]
  | stops => exact absurd rfl stop
  | dispatches | disables | enables | reports | returns => rfl

/-- R48: the unimplemented opcodes report. -/
theorem diagLog (h : u.Operates n f t) (undef : ∀ w, f ≠ .undef w) : t.diagLog = u.diagLog := by
  cases h with
  | computes h => obtain ⟨r, p, c, rfl, _⟩ := h; rfl
  | halts => rcases u.halt_cases with e | ⟨_, _, e⟩ <;> rw [e]
  | reports w e => exact absurd rfl (undef w)
  | dispatches | stops | disables | enables | returns => rfl

/-- R152: the conditional instructions add cycles. -/
theorem cyclesLeft (h : u.Operates n f t) (prefixCB : f ≠ .prefixCB) : t.cyclesLeft = u.cyclesLeft + n := by
  cases h with
  | computes h => obtain ⟨r, p, c, rfl, _⟩ := h; rfl
  | halts => rcases u.halt_cases with e | ⟨_, _, e⟩ <;> rw [e] <;> rfl
  | dispatches => exact absurd rfl prefixCB
  | stops | disables | enables | reports | returns => rfl

theorem stand (h : u.Operates n f t) (prefixCB : f ≠ .prefixCB) : t.stand = u.stand := by
  cases h with
  | computes h => obtain ⟨r, p, c, rfl, stand⟩ := h; exact stand
  | halts => rcases u.halt_cases with e | ⟨_, _, e⟩ <;> rw [e] <;> rfl
  | dispatches => exact absurd rfl prefixCB
  | stops | disables | enables | reports | returns => rfl

end State.Operates

/-! ### The whole segment -/

theorem eq_of_form_eq {i j : Instr} (h : i.form = j.form) : i = j := by
  rw [← ofForm_form i, h, ofForm_form]

theorem eq_ofUndef_of_form_eq {i : Instr} {w : Undef} (h : i.form = .undef w) : i = .ofUndef w := by
  rw [← ofForm_form i, h]; rfl

theorem extraCycles_of_unconditional {f : Form} (h : conditionOf f = none) (s : State) : extraCycles f s = 0 := by
  cases f with
  | jrCc | jpCc | callCc | retCc => cases h
  | _ => rfl

end Sys2Proof.Machine

namespace Sys2Proof

open Sys2Proof.Machine

/-- Settles O35: the one access stores at `storeAddr`, if at all, and what follows it leaves the bus port alone. -/
theorem frameOfMemory : Obligations.FrameOfMemory := by
  unfold Obligations.FrameOfMemory
  intro i s t h
  obtain ⟨u, access, op⟩ := exec_effect h
  have other (b : Word) (hb : some b ≠ storeAddr i.form s) :
      t.content b = s.content b ∧ (s.handler b ≠ some .device → t.peek b = s.peek b) := by
    have content : t.content b = s.content b := (op.sameOutside.content b).trans (access.content hb)
    have map : t.busMap = s.busMap := op.sameOutside.busMap.trans access.sameBlock.busMap
    exact ⟨content, State.peek_eq_of_content (by rw [State.handler, map, State.handler]) content⟩
  exact ⟨fun a store b hb => other b fun e => hb (Option.some.inj (e.trans store)),
    fun quiet b => other b (by simp [quiet])⟩

/-- Settles O36: each piece of state from the access or from what follows it. -/
theorem frameOfControlState : Obligations.FrameOfControlState := by
  unfold Obligations.FrameOfControlState
  intro i s t h
  obtain ⟨u, access, op⟩ := exec_effect h
  have out := op.sameOutside
  have kept := access.sameBlock
  refine ⟨fun di reti => ?_, fun ei => ?_, fun halt => ?_, fun stop => ?_, fun undef => ?_, fun ie => ?_, fun ifl => ?_,
    fun unconditional prefixCB => ?_, ?_, ?_, ?_, ?_, ?_⟩
  · exact (op.ime (mt (eq_of_form_eq (j := .di)) di) (mt (eq_of_form_eq (j := .reti)) reti)).trans kept.ime
  · exact (op.delay (mt (eq_of_form_eq (j := .ei)) ei)).trans kept.delay
  · obtain ⟨halted, haltBug⟩ := op.halted (mt (eq_of_form_eq (j := .halt)) halt)
    exact ⟨halted.trans kept.halted, haltBug.trans kept.haltBug⟩
  · exact (op.stopped (mt (eq_of_form_eq (j := .stop)) stop)).trans kept.stopped
  · exact (op.diagLog fun w => mt eq_ofUndef_of_form_eq (undef w)).trans kept.diagLog
  · exact out.ie.trans (access.ie ie)
  · exact out.ifl.trans (access.ifl ifl)
  · rw [op.cyclesLeft (mt (eq_of_form_eq (j := .prefixCB)) prefixCB), extraCycles_of_unconditional unconditional]
    exact kept.cyclesLeft
  · exact out.pendingVector.trans kept.pendingVector
  · exact out.params.trans kept.params
  · exact out.busMap.trans kept.busMap
  · exact out.inputs.trans kept.inputs
  · exact out.clock.trans kept.clock

end Sys2Proof

/-! The frame of the registers: what each family writes of A to L and SP. -/

namespace Sys2Proof.Machine

/-! ### Register files that agree wherever an instruction does not write -/

/-- From `f` to `g` no register changes but those of `dest`, and SP only where `sp` is set. -/
def RegFile.Keeps (dest : List Reg8) (sp : Bool) (f g : RegFile) : Prop :=
  (∀ r, r ∉ dest → g.get r = f.get r) ∧ (sp = false → g.sp = f.sp)

namespace RegFile

variable {dest : List Reg8} {sp : Bool} {f g : RegFile}

@[simp] theorem Keeps.refl (dest : List Reg8) (sp : Bool) (f : RegFile) : Keeps dest sp f f :=
  ⟨fun _ _ => rfl, fun _ => rfl⟩

@[simp] theorem keeps_withFlags_iff (x : Flags) : Keeps dest sp f { g with flags := x } ↔ Keeps dest sp f g := by
  simp [Keeps]

@[simp] theorem keeps_withSp_iff (v : Word) : Keeps dest true f { g with sp := v } ↔ Keeps dest true f g := by
  simp [Keeps]

theorem Keeps.set {r : Reg8} (h : Keeps dest sp f g) (hr : r ∈ dest) (v : Byte) : Keeps dest sp f (g.set r v) :=
  ⟨fun q hq => (get_set_other g r q v fun e => hq (e ▸ hr)).trans (h.1 q hq), fun w => (g.set_sp r v).trans (h.2 w)⟩

theorem get_setPair_other {p : Pair16} {r : Reg8} (hr : r ∉ pairHalves p) (v : Word) :
    (g.setPair p v).get r = g.get r := by
  revert hr; cases p <;> cases r <;> simp [pairHalves, setPair, get]

theorem get_setStackPair_other {q : StackPair} {r : Reg8} (hr : r ∉ stackPairHalves q) (v : Word) :
    (g.setStackPair q v).get r = g.get r := by
  revert hr; cases q <;> cases r <;> simp [stackPairHalves, setStackPair, get]

theorem Keeps.setPair {p : Pair16} (h : Keeps dest sp f g) (hp : ∀ r ∈ pairHalves p, r ∈ dest)
    (hsp : sp = false → p ≠ .sp) (v : Word) : Keeps dest sp f (g.setPair p v) :=
  ⟨fun r hr => (get_setPair_other (fun m => hr (hp r m)) v).trans (h.1 r hr),
    fun w => (g.setPair_sp_of_ne p v (hsp w)).trans (h.2 w)⟩

theorem Keeps.setStackPair {q : StackPair} (h : Keeps dest sp f g) (hq : ∀ r ∈ stackPairHalves q, r ∈ dest) (v : Word) :
    Keeps dest sp f (g.setStackPair q v) :=
  ⟨fun r hr => (get_setStackPair_other (fun m => hr (hq r m)) v).trans (h.1 r hr),
    fun w => (g.setStackPair_sp q v).trans (h.2 w)⟩

end RegFile

/-! ### The families -/

/-- R250 to R257: every accumulator operation but CP writes A. -/
theorem State.operate_keeps_regs (s : State) (op : AluOp) (v : Byte) :
    RegFile.Keeps (if op = .cp then [] else [.a]) false s.regs (s.operate op v).regs := by
  rw [State.operate, State.setResult_regs, RegFile.keeps_withFlags_iff]
  by_cases hop : op = .cp
  · subst hop; exact .refl ..
  · rw [if_neg hop]; exact (RegFile.Keeps.refl ..).set (by simp) _

/-- Every family keeps the registers it does not name. The families that write neither a register nor SP stand first,
then those that step SP alone, then those with a destination. -/
theorem Form.run_keeps_regs (f : Form) {s t : State} (h : Form.run f s = .next t) :
    RegFile.Keeps (destRegs f) (writesSp f) s.regs t.regs := by
  cases f with
  | nop | halt | stop | di | ei | scf | ccf | jpHl =>
    simp only [Form.run, nop_next_iff, halt_next_iff, stop_next_iff, di_next_iff, ei_next_iff, scf_next_iff,
      ccf_next_iff, jpHl_next_iff] at h
    obtain ⟨_, rfl⟩ := h
    simp
  | undef =>
    obtain ⟨_, op, _, a, _, rfl⟩ := undef_next_iff.1 h
    exact .refl ..
  | prefixCB | ldHlReg | ldIndA | ldCA | bitReg =>
    simp only [Form.run, prefixCB_next_iff, ldHlReg_next_iff, ldIndA_next_iff, ldCA_next_iff, bitReg_next_iff] at h
    rcases h with ⟨_, rfl⟩ | ⟨_, rfl⟩ <;> simp
  | bitHl b =>
    rcases (bitHl_next_iff b).1 h with ⟨_, rfl⟩ | ⟨_, rfl⟩ | ⟨_, rfl⟩ <;> simp
  | ldHlImm | ldhImmA | incHl | decHl | jr | jrCc =>
    simp only [Form.run, ldHlImm_next_iff, ldhImmA_next_iff, incHl_next_iff, decHl_next_iff, jr_next_iff,
      jrCc_next_iff] at h
    rcases h with ⟨_, rfl⟩ | ⟨_, rfl⟩ | ⟨_, v, _, rfl⟩ <;> simp
  | rotHl | resHl | setHl =>
    simp only [Form.run, rotHl_next_iff, resHl_next_iff, setHl_next_iff] at h
    rcases h with ⟨_, rfl⟩ | ⟨_, rfl⟩ | ⟨_, rfl⟩ | ⟨_, v, _, rfl⟩ <;> simp
  | ldAbsA | jp | jpCc =>
    simp only [Form.run, ldAbsA_next_iff, jp_next_iff, jpCc_next_iff] at h
    rcases h with ⟨_, rfl⟩ | ⟨_, rfl⟩ | ⟨_, rfl⟩ | ⟨_, hi, _, lo, _, rfl⟩ <;> simp
  | ldAbsSp =>
    rcases ldAbsSp_next_iff.1 h with
      ⟨_, rfl⟩ | ⟨_, rfl⟩ | ⟨_, rfl⟩ | ⟨_, hi, _, lo, _, rfl⟩ | ⟨_, hi, _, lo, _, rfl⟩ <;> simp
  | ldSpHl =>
    rcases ldSpHl_next_iff.1 h with ⟨_, rfl⟩ | ⟨_, rfl⟩ <;> simp [writesSp]
  | push | rst =>
    simp only [Form.run, push_next_iff, rst_next_iff] at h
    rcases h with ⟨_, rfl⟩ | ⟨_, rfl⟩ | ⟨_, rfl⟩ | ⟨_, rfl⟩ <;> simp [writesSp]
  | addSp =>
    rcases addSp_next_iff.1 h with ⟨_, rfl⟩ | ⟨_, rfl⟩ | ⟨_, rfl⟩ | ⟨_, v, _, rfl⟩
    · exact .refl ..
    · exact .refl ..
    · exact .refl ..
    · exact (RegFile.keeps_withFlags_iff _).2 ((RegFile.keeps_withSp_iff _).2 (.refl ..))
  | ret | reti =>
    simp only [Form.run, returnFrom_next_iff, returnFromInterrupt_next_iff] at h
    rcases h with ⟨_, rfl⟩ | ⟨_, rfl⟩ | ⟨_, rfl⟩ | ⟨_, hi, _, lo, _, rfl⟩ <;> simp [writesSp]
  | retCc cc =>
    rcases (retCc_next_iff cc).1 h with
      ⟨_, rfl⟩ | ⟨_, rfl⟩ | ⟨_, rfl⟩ | ⟨_, rfl⟩ | ⟨_, hi, _, lo, _, rfl⟩ <;> simp [writesSp]
  | call | callCc =>
    simp only [Form.run, call_next_iff, callCc_next_iff] at h
    rcases h with ⟨_, rfl⟩ | ⟨_, rfl⟩ | ⟨_, rfl⟩ | ⟨_, rfl⟩ | ⟨_, rfl⟩ | ⟨_, hi, _, lo, _, rfl⟩ <;> simp [writesSp]
  | ldRegReg dst src =>
    obtain ⟨_, rfl⟩ := (ldRegReg_next_iff dst src).1 h
    exact (RegFile.Keeps.refl ..).set (by simp [destRegs]) _
  | incReg | decReg | daa | cpl | rlca | rrca | rla | rra =>
    simp only [Form.run, incReg_next_iff, decReg_next_iff, daa_next_iff, cpl_next_iff, rotateA_next_iff] at h
    obtain ⟨_, rfl⟩ := h
    exact (RegFile.keeps_withFlags_iff _).2 ((RegFile.Keeps.refl ..).set (by simp [destRegs]) _)
  | ldRegImm | ldRegHl | ldAInd | ldAC | resReg | setReg =>
    simp only [Form.run, ldRegImm_next_iff, ldRegHl_next_iff, ldAInd_next_iff, ldAC_next_iff, resReg_next_iff,
      setReg_next_iff] at h
    rcases h with ⟨_, rfl⟩ | ⟨_, rfl⟩
    · exact .refl ..
    · exact (RegFile.Keeps.refl ..).set (by simp [destRegs]) _
  | rotReg op r =>
    rcases (rotReg_next_iff op r).1 h with ⟨_, rfl⟩ | ⟨_, rfl⟩
    · exact .refl ..
    · exact (RegFile.keeps_withFlags_iff _).2 ((RegFile.Keeps.refl ..).set (by simp [destRegs]) _)
  | ldAHlInc | ldAHlDec =>
    simp only [Form.run, ldAHlInc_next_iff, ldAHlDec_next_iff] at h
    rcases h with ⟨_, rfl⟩ | ⟨_, rfl⟩
    · exact .refl ..
    · rw [State.setPair_regs, State.setReg_regs]
      exact .setPair (.set (.refl ..) (by simp [destRegs]) _) (by simp [pairHalves, destRegs]) (by simp) _
  | ldHlIncA | ldHlDecA =>
    simp only [Form.run, ldHlIncA_next_iff, ldHlDecA_next_iff] at h
    rcases h with ⟨_, rfl⟩ | ⟨_, rfl⟩
    · exact .refl ..
    · rw [State.setPair_regs, State.memWrite_regs]
      exact (RegFile.Keeps.refl ..).setPair (by simp [pairHalves, destRegs]) (by simp) _
  | incPair | decPair =>
    simp only [Form.run, incPair_next_iff, decPair_next_iff] at h
    rcases h with ⟨_, rfl⟩ | ⟨_, rfl⟩
    · exact .refl ..
    · exact (RegFile.Keeps.refl ..).setPair (by simp [destRegs]) (by simp [writesSp]) _
  | addHl p =>
    rcases (addHl_next_iff p).1 h with ⟨_, rfl⟩ | ⟨_, rfl⟩
    · exact .refl ..
    · exact (RegFile.keeps_withFlags_iff _).2
        ((RegFile.Keeps.refl ..).setPair (by simp [pairHalves, destRegs]) (by simp) _)
  | ldHlSp =>
    rcases ldHlSp_next_iff.1 h with ⟨_, rfl⟩ | ⟨_, rfl⟩ | ⟨_, v, _, rfl⟩
    · exact .refl ..
    · exact .refl ..
    · exact (RegFile.keeps_withFlags_iff _).2
        ((RegFile.Keeps.refl ..).setPair (by simp [pairHalves, destRegs]) (by simp) _)
  | ldPairImm p =>
    rcases (ldPairImm_next_iff p).1 h with ⟨_, rfl⟩ | ⟨_, rfl⟩ | ⟨_, v, _, rfl⟩
    · exact .refl ..
    · exact .refl ..
    · exact (RegFile.Keeps.refl ..).setPair (by simp [destRegs]) (by simp [writesSp]) _
  | pop q =>
    rcases (pop_next_iff q).1 h with ⟨_, rfl⟩ | ⟨_, rfl⟩ | ⟨_, v, _, rfl⟩
    · exact .refl ..
    · exact (RegFile.keeps_withSp_iff _).2 (.refl ..)
    · exact ((RegFile.keeps_withSp_iff _).2 (.refl ..)).setStackPair (by simp [destRegs]) _
  | ldhAImm =>
    rcases ldhAImm_next_iff.1 h with ⟨_, rfl⟩ | ⟨_, rfl⟩ | ⟨_, v, _, rfl⟩
    · exact .refl ..
    · exact .refl ..
    · exact (RegFile.Keeps.refl ..).set (by simp [destRegs]) _
  | ldAAbs =>
    rcases ldAAbs_next_iff.1 h with ⟨_, rfl⟩ | ⟨_, rfl⟩ | ⟨_, rfl⟩ | ⟨_, hi, _, lo, _, rfl⟩
    · exact .refl ..
    · exact .refl ..
    · exact .refl ..
    · exact (RegFile.Keeps.refl ..).set (by simp [destRegs]) _
  | aluReg op r =>
    obtain ⟨_, rfl⟩ := (aluReg_next_iff op r).1 h
    exact s.operate_keeps_regs op _
  | aluHl op =>
    rcases (aluHl_next_iff op).1 h with ⟨_, rfl⟩ | ⟨_, rfl⟩
    · exact .refl ..
    · exact State.operate_keeps_regs _ op _
  | aluImm op =>
    rcases (aluImm_next_iff op).1 h with ⟨_, rfl⟩ | ⟨_, rfl⟩
    · exact .refl ..
    · exact State.operate_keeps_regs _ op _

end Sys2Proof.Machine

namespace Sys2Proof

open Sys2Proof.Machine

/-- Settles O33: an instruction runs its family, and each family keeps the registers it does not name. -/
theorem frameOfRegisters : Obligations.FrameOfRegisters := by
  unfold Obligations.FrameOfRegisters
  intro i s t h
  rw [exec_eq_run] at h
  exact Form.run_keeps_regs i.form h

end Sys2Proof

/-! The sequencer (R141 to R150, R155, R410 to R413, R451): what the step is, in each of its situations. -/

namespace Sys2Proof.Machine

/-! ### The segment of a routine -/

/-- R150: the segment of the routine in flight runs with one cycle less, and the state is counted on. -/
theorem runSegment_of {s : State} {c : Continuation} (h : s.cont = some c) :
    runSegment s =
      andThen (runRoutine c.routine { s with cyclesLeft := s.cyclesLeft - 1 }) fun t => .next t.finish := by
  rw [runSegment, h]

theorem runSegment_instr {s : State} {c : Continuation} {i : Instr} (h : s.cont = some c) (hr : c.routine = .instr i)
    (hi : i ≠ .prefixCB) :
    runSegment s = andThen (exec i { s with cyclesLeft := s.cyclesLeft - 1 }) fun t => .next t.finish := by
  rw [runSegment_of h, hr, runRoutine, runInstr_of_ne hi]

theorem runSegment_isr {s : State} {c : Continuation} (h : s.cont = some c) (hr : c.routine = .isr) :
    runSegment s = andThen (acceptInterrupt { s with cyclesLeft := s.cyclesLeft - 1 }) fun t => .next t.finish := by
  rw [runSegment_of h, hr, runRoutine]

/-- R388: M1 of PREFIX CB dispatches to no CB routine. -/
theorem runInstr_prefixCB_M1 {s : State} {c : Continuation} (h : s.cont = some c) (hr : c.routine = .instr .prefixCB)
    (hk : c.k = 0) : runInstr .prefixCB s = .next s := by
  have m1 : exec .prefixCB s = .next s := prefixCB_next_iff.2 (.inl ⟨by simp [h, hk], rfl⟩)
  simp [runInstr, m1, cbDispatched, h, hr]

/-- R149: M2 of PREFIX CB fetches the CB byte, and the CB routine's action follows in the same step. -/
theorem runInstr_prefixCB_M2 {s : State} {c : Continuation} (h : s.cont = some c) (hk : c.k = 1) :
    runInstr .prefixCB s = exec (decodeCb (s.peek s.pc)) (s.fetched.dispatchCb (s.peek s.pc)) := by
  have m2 : exec .prefixCB s = .next (s.fetched.dispatchCb (s.peek s.pc)) :=
    prefixCB_next_iff.2 (.inr ⟨by simp [h, hk], rfl⟩)
  have chosen : cbDispatched .prefixCB (s.fetched.dispatchCb (s.peek s.pc)) = some (decodeCb (s.peek s.pc)) := by
    rw [State.dispatchCb_eq]
    simp [cbDispatched, State.fetched, h, decodeCb_ne_prefixCB]
  simp [runInstr, m2, chosen]

/-! ### The boundary -/

theorem State.start_of_accepts {s : State} (h : s.accepts = true) : s.start = s.beginInterrupt := if_pos h

theorem State.start_of_refuses {s : State} (h : s.accepts = false) : s.start = s.fetch := if_neg (by simp [h])

theorem State.accepts_eq_true_iff {s : State} : s.accepts = true ↔ s.ime = true ∧ s.pending ≠ 0 := by
  simp [State.accepts]

theorem State.accepts_eq_false_iff {s : State} : s.accepts = false ↔ s.ime = false ∨ s.pending = 0 := by
  rw [← Bool.not_eq_true, State.accepts_eq_true_iff, not_and_or]
  simp

/-- An awake boundary goes on. -/
theorem step_of_awake_boundary {s : State} (h : s.sample.cyclesLeft = 0) (hs : s.sample.stopped = false)
    (hh : s.sample.halted = false) : step s = runSegment s.sample.start := by
  rw [step_boundary h, State.boundary_of_awake hh hs]

theorem step_of_fetchesNext {s : State} (h : s.fetchesNext) : step s = runSegment s.sample.fetch := by
  obtain ⟨left, stopped, halted, refuses⟩ := h
  rw [step_of_awake_boundary left stopped halted, State.start_of_refuses refuses]

theorem State.with_stopped_of_false {s : State} (h : s.stopped = false) : { s with stopped := false } = s := by
  cases s; simp_all

theorem State.with_halted_of_false {s : State} (h : s.halted = false) : { s with halted := false } = s := by
  cases s; simp_all

/-- R142: Halted ends, and the same step goes on. -/
theorem step_of_halted {s : State} (h : s.sample.cyclesLeft = 0) (hs : s.sample.stopped = false)
    (hp : s.sample.halted = true → s.sample.pending ≠ 0) :
    step s = runSegment { s.sample with halted := false }.start := by
  rw [step_of_awake h (by simp [hs]) hp]
  exact congrArg (fun u : State => runSegment u.start)
    (State.with_stopped_of_false (s := { s.sample with halted := false }) hs)

/-- R142: Stopped ends, and the same step goes on. -/
theorem step_of_stopped {s : State} (h : s.sample.cyclesLeft = 0) (hh : s.sample.halted = false)
    (hw : s.sample.stopped = true → s.sample.stopWakes = true) :
    step s = runSegment { s.sample with stopped := false }.start := by
  rw [step_of_awake h hw (by simp [hh])]
  exact congrArg (fun u : State => runSegment u.start)
    (State.with_halted_of_false (s := { s.sample with stopped := false }) hh)

/-- R155: a boundary that stays Stopped is idle. -/
theorem step_of_stays_stopped {s : State} (h : s.sample.cyclesLeft = 0) (hs : s.sample.stopped = true)
    (hw : s.sample.stopWakes = false) : step s = .next s.sample := by
  rw [step_boundary h, State.boundary, if_pos hs, if_neg (by simp [hw])]

/-- R155: a boundary that stays Halted is idle. -/
theorem step_of_stays_halted {s : State} (h : s.sample.cyclesLeft = 0) (hs : s.sample.stopped = false)
    (hh : s.sample.halted = true) (hp : s.sample.pending = 0) : step s = .next s.sample := by
  rw [step_boundary h, State.boundary, if_neg (by simp [hs]), State.checkHalted, if_pos hh, if_neg (by simp [hp])]

/-- The step sees a state only through its sample. -/
theorem step_congr {s t : State} (h : s.sample = t.sample) : step s = step t := by
  simp only [step, stepCycle, h]

/-! ### The start of the acceptance sequence -/

/-- R144, R410: the sequence begins with M1, which clears IME. -/
theorem runSegment_beginInterrupt (s : State) :
    runSegment s.beginInterrupt = .next { s with
      ime := false
      pendingVector := priorityVector s.pending
      cyclesLeft := 4
      cont := some ⟨.isr, 1, none, none, none, none, none, none⟩ } := by
  rw [runSegment_isr s.beginInterrupt_cont rfl, acceptInterrupt_M1 rfl]
  rfl

theorem State.isrPushHigh_of_sp_ne {s : State} (h : s.sp ≠ 0) :
    s.isrPushHigh = (s.setSp (s.sp - 1)).memWrite (s.sp - 1) (highByte s.pc) :=
  if_neg fun e : s.sp - 1 = 0xFFFF => h (by bv_omega)

/-- R412: the push to 0xFFFF recomputes the pending vector. -/
theorem State.isrPushHigh_of_sp_zero {s : State} (h : s.sp = 0) :
    s.isrPushHigh = { (s.setSp (s.sp - 1)).memWrite (s.sp - 1) (highByte s.pc) with
      pendingVector := priorityVector ((s.setSp (s.sp - 1)).memWrite (s.sp - 1) (highByte s.pc)).pending } :=
  if_pos (show s.sp - 1 = 0xFFFF by rw [h]; rfl)

theorem State.isrJump_of_some {s : State} {i : IntSource} (h : s.pendingVector = some i) :
    s.isrJump = { s with pc := i.vector, ifl := s.ifl &&& ~~~((1 : BitVec 5) <<< i.index) } := by
  rw [State.isrJump, h]

theorem State.isrJump_of_none {s : State} (h : s.pendingVector = none) : s.isrJump = { s with pc := 0x0000 } := by
  rw [State.isrJump, h]

end Sys2Proof.Machine

namespace Sys2Proof

open Sys2Proof.Machine

/-- Settles O37: the byte decodes to its base entry or is PREFIX CB, and that routine's M1 follows the fetch. -/
theorem stepRunsTheDecodedInstruction : Obligations.StepRunsTheDecodedInstruction := by
  unfold Obligations.StepRunsTheDecodedInstruction
  rintro s op more rest c fetches rfl decodes
  rw [step_of_fetchesNext fetches]
  have cont := s.sample.fetch_cont
  rcases decode_cases decodes with ⟨b, bytes, rfl⟩ | ⟨op, whole, bytes, hi, _⟩
  · obtain ⟨byte, rfl⟩ := List.cons.inj bytes
    refine ⟨fun op base => ?_, fun b _ => ?_⟩
    · exact Opcode.noConfusion ((opcode_decodeCb _).symm.trans base)
    · rw [byte] at cont
      rw [runSegment_of cont]
      exact congrArg (andThen · _) (runInstr_prefixCB_M1 (s := s.sample.atFirstSegment) cont rfl rfl |>.trans
        (prefixCB_next_iff.2 (.inl ⟨by rw [show s.sample.atFirstSegment.cont = _ from cont]; rfl, rfl⟩)).symm)
  · obtain ⟨rfl, _⟩ := List.cons.inj bytes
    refine ⟨fun op _ => ?_, fun b cb => ?_⟩
    · rw [hi]
      exact runSegment_instr cont rfl (mt decodeBase_eq_prefixCB_iff.1 whole)
    · exact Opcode.noConfusion ((opcode_decodeBase _).symm.trans (hi ▸ cb))

/-- Settles O38: with cycles left the step is the segment of the routine in flight. -/
theorem stepContinuesTheRoutine : Obligations.StepContinuesTheRoutine := by
  unfold Obligations.StepContinuesTheRoutine
  intro s n c left cont
  have running : step s = runSegment s.sample := stepCycle_segment (by omega)
  have counted : s.sample.cyclesLeft - 1 = n := by omega
  refine ⟨fun i hr hi => ?_, fun hr hk => ?_, fun hr => ?_⟩
  · rw [running, runSegment_instr cont hr hi, counted]
  · refine ⟨_, prefixCB_next_iff.2 (.inr ⟨by simp [cont, hk], rfl⟩), ?_⟩
    rw [running, runSegment_of cont, hr, counted]
    exact congrArg (andThen · _) (runInstr_prefixCB_M2 (s := { s.sample with cyclesLeft := n }) cont hk)
  · rw [running, runSegment_isr cont hr, counted]

/-- Settles O39: the fields of the state after a fetch. -/
theorem opcodeFetchAndDispatch : Obligations.OpcodeFetchAndDispatch := by
  unfold Obligations.OpcodeFetchAndDispatch
  intro s
  refine ⟨fun bug => ?_, fun bug => ?_, s.fetch_haltBug, s.fetch_busLog, fun delay => ?_, fun delay => ?_,
    s.fetch_delay, rfl, (cycles_decodeBase _).symm, rfl, s.fetch_regs, s.fetch_ie, s.fetch_ifl, s.fetch_mem⟩
  · rw [s.fetch_pc, bug]; rfl
  · rw [s.fetch_pc, bug]; rfl
  · rw [s.fetch_ime, delay]; rfl
  · rw [s.fetch_ime, delay]; rfl

/-- Settles O40: the sample without a reset, and the two idle boundaries. -/
theorem idleStepsChangeNothingElse : Obligations.IdleStepsChangeNothingElse := by
  unfold Obligations.IdleStepsChangeNothingElse
  intro s noReset
  have sample := State.sample_of_noReset noReset
  refine ⟨sample, fun left stopped stays => ?_, fun left stopped halted quiet => ?_⟩
  · exact step_of_stays_stopped (by rw [sample]; exact left) (by rw [sample]; exact stopped) stays
  · exact step_of_stays_halted (by rw [sample]; exact left) (by rw [sample]; exact stopped)
      (by rw [sample]; exact halted) quiet

/-- Settles O41: both waits end in the step that goes on, and IME with a pending interrupt decides what it starts. -/
theorem wakeUpGoesOnInTheSameStep : Obligations.WakeUpGoesOnInTheSameStep := by
  unfold Obligations.WakeUpGoesOnInTheSameStep
  intro s left
  refine ⟨fun awake _ pending => ?_, fun stopped halted wakes => ?_, fun m mask => ?_⟩
  · rw [step_of_halted left awake fun _ => pending]
    exact ⟨fun ime => congrArg runSegment (State.start_of_accepts (State.accepts_eq_true_iff.2 ⟨ime, pending⟩)),
      fun ime => congrArg runSegment (State.start_of_refuses (State.accepts_eq_false_iff.2 (.inl ime)))⟩
  · rw [step_of_stopped left halted fun _ => wakes]
    exact ⟨fun accepts => congrArg runSegment (State.start_of_accepts (State.accepts_eq_true_iff.2 accepts)),
      fun refuses => congrArg runSegment (State.start_of_refuses (State.accepts_eq_false_iff.2 refuses))⟩
  · simp [State.stopWakes, mask]

/-- Settles O42. -/
theorem acceptanceStartsAtTheBoundary : Obligations.AcceptanceStartsAtTheBoundary := by
  unfold Obligations.AcceptanceStartsAtTheBoundary
  intro s left stopped halted ime pending
  rw [step_of_awake_boundary left stopped halted, State.start_of_accepts (State.accepts_eq_true_iff.2 ⟨ime, pending⟩)]
  exact runSegment_beginInterrupt s.sample

/-- Settles O43: the five segments, M3 by whether it pushes to IE, M5 by whether a vector is left. -/
theorem acceptanceSequenceSegments : Obligations.AcceptanceSequenceSegments := by
  unfold Obligations.AcceptanceSequenceSegments
  refine fun s => ⟨acceptInterrupt_M1, acceptInterrupt_M2, fun m3 => ⟨fun sp => ?_, fun sp => ?_⟩, acceptInterrupt_M4,
    fun m5 => ⟨fun i vector => ?_, fun vector => ?_⟩⟩
  · rw [acceptInterrupt_M3 m3, State.isrPushHigh_of_sp_ne sp]
  · rw [acceptInterrupt_M3 m3, State.isrPushHigh_of_sp_zero sp]
  · rw [acceptInterrupt_M5 m5, State.isrJump_of_some vector]; rfl
  · rw [acceptInterrupt_M5 m5, State.isrJump_of_none vector]

/-- Settles O47: the reset state's values, and the step after a reset seen through its sample. -/
theorem resetLeavesTheResetState : Obligations.ResetLeavesTheResetState := by
  unfold Obligations.ResetLeavesTheResetState
  refine ⟨by decide, fun s reset => ⟨step_congr ?_, rfl⟩⟩
  rw [State.sample_of_reset reset, State.sample_of_noReset rfl]
  rfl

/-- Settles O48: the reset state is an awake boundary. -/
theorem resetMeetsTheInvariant : Obligations.ResetMeetsTheInvariant :=
  Tests.inv_of_boundary reset_memory_wf (by decide) rfl (by decide) (by decide) rfl

end Sys2Proof

/-! The next segment of an instruction in flight: that it answers a next state, and that the locals which the segments
after it read are written (R46, R151, R153). -/

namespace Sys2Proof.Machine

/-! ### The counts, by family -/

/-- How many segments the schedule of a family has. -/
def segmentCount : Form → Nat
  | .nop | .halt | .stop | .di | .ei | .undef _ | .ldRegReg _ _ | .aluReg _ _ | .incReg _ | .decReg _ | .daa | .cpl
  | .scf | .ccf | .rlca | .rrca | .rla | .rra | .jpHl => 1
  | .prefixCB | .ldRegImm _ | .ldRegHl _ | .ldHlReg _ | .ldAInd _ | .ldIndA _ | .ldAHlInc | .ldAHlDec | .ldHlIncA
  | .ldHlDecA | .ldAC | .ldCA | .ldSpHl | .aluHl _ | .aluImm _ | .addHl _ | .incPair _ | .decPair _ | .rotReg _ _
  | .bitReg _ _ | .resReg _ _ | .setReg _ _ => 2
  | .ldHlImm | .ldhAImm | .ldhImmA | .ldPairImm _ | .pop _ | .incHl | .decHl | .ldHlSp | .bitHl _ | .jr | .jrCc _ => 3
  | .ldAAbs | .ldAbsA | .push _ | .addSp | .rotHl _ | .resHl _ | .setHl _ | .jp | .jpCc _ | .rst _ | .ret | .reti => 4
  | .ldAbsSp | .retCc _ => 5
  | .call | .callCc _ => 6

/-- What the condition of an instruction adds to its count, where it holds (R152). -/
def branchExtra (f : Form) : Nat :=
  match branchOf f with
  | some (_, _, n) => n
  | none => 0

/-- R112, R113: an instruction's counts are its schedule's length, less what its condition adds. -/
theorem counts (i : Instr) :
    i.takenCycles = segmentCount i.form ∧ i.cycles + branchExtra i.form = segmentCount i.form := by
  have base : ∀ op : Byte, takenBase op = segmentCount (decodeBase op).form ∧
    declaredBase op + branchExtra (decodeBase op).form = segmentCount (decodeBase op).form := by decide
  have cb : ∀ b : Byte, declaredCb b = segmentCount (decodeCb b).form ∧
    declaredCb b + branchExtra (decodeCb b).form = segmentCount (decodeCb b).form := by decide
  cases hi : i.opcode with
  | base op => obtain rfl := decodeBase_of_opcode hi; simpa [Instr.takenCycles, Instr.cycles, hi] using base op
  | cb b => obtain rfl := decodeCb_of_opcode hi; simpa [Instr.takenCycles, Instr.cycles, hi] using cb b

/-! ### The segment answers -/

theorem Continuation.heldFrom_iff {c : Continuation} {n : Nat} {v : Option Byte} :
    c.heldFrom n v = true ↔ (n ≤ c.k → ∃ x, v = some x) := by
  rw [Continuation.heldFrom, Bool.or_eq_true, decide_eq_true_iff, Option.isSome_iff_exists, ← Nat.not_lt,
    or_iff_not_imp_left]

/-- Within its schedule, with the locals it reads written, a family's segment answers a next state. The families stand
in groups of one schedule length and the locals that the last segments read. -/
theorem Form.run_total (f : Form) {s : State} {c : Continuation} (hc : s.cont = some c) (hk : c.k < segmentCount f)
    (ready : localsReady f c = true) (opcode : c.k = 0 → c.op.isSome = true ∧ c.opAddr.isSome = true) :
    ∃ t, Form.run f s = .next t := by
  have at_k {n} (h : c.k = n) : s.cont.map (·.k) = some n := by rw [hc, ← h]; rfl
  have tmp {v} (h : c.tmp = some v) : s.cont.bind (·.tmp) = some v := by rw [hc]; exact h
  have lo {v} (h : c.lo = some v) : s.cont.bind (·.lo) = some v := by rw [hc]; exact h
  have hi {v} (h : c.hi = some v) : s.cont.bind (·.hi) = some v := by rw [hc]; exact h
  cases f with
  | nop | halt | stop | di | ei | ldRegReg | aluReg | incReg | decReg | daa | cpl | scf | ccf | rlca | rrca | rla | rra
  | jpHl =>
    have at0 : c.k = 0 := Nat.lt_one_iff.1 hk
    simp only [Form.run, nop_next_iff, halt_next_iff, stop_next_iff, di_next_iff, ei_next_iff, ldRegReg_next_iff,
      aluReg_next_iff, incReg_next_iff, decReg_next_iff, daa_next_iff, cpl_next_iff, scf_next_iff, ccf_next_iff,
      rotateA_next_iff, jpHl_next_iff]
    exact ⟨_, at_k at0, rfl⟩
  | undef =>
    have at0 : c.k = 0 := Nat.lt_one_iff.1 hk
    obtain ⟨hop, haddr⟩ := opcode at0
    obtain ⟨o, ho⟩ := Option.isSome_iff_exists.1 hop
    obtain ⟨a, ha⟩ := Option.isSome_iff_exists.1 haddr
    exact ⟨_, undef_next_iff.2 ⟨at_k at0, o, by rw [hc]; exact ho, a, by rw [hc]; exact ha, rfl⟩⟩
  | prefixCB | ldRegImm | ldRegHl | ldHlReg | ldAInd | ldIndA | ldAHlInc | ldAHlDec | ldHlIncA | ldHlDecA | ldAC | ldCA
  | ldSpHl | aluHl | aluImm | addHl | incPair | decPair | rotReg | bitReg | resReg | setReg =>
    simp only [Form.run, prefixCB_next_iff, ldRegImm_next_iff, ldRegHl_next_iff, ldHlReg_next_iff, ldAInd_next_iff,
      ldIndA_next_iff, ldAHlInc_next_iff, ldAHlDec_next_iff, ldHlIncA_next_iff, ldHlDecA_next_iff, ldAC_next_iff,
      ldCA_next_iff, ldSpHl_next_iff, aluHl_next_iff, aluImm_next_iff, addHl_next_iff, incPair_next_iff,
      decPair_next_iff, rotReg_next_iff, bitReg_next_iff, resReg_next_iff, setReg_next_iff]
    obtain at0 | at1 : c.k = 0 ∨ c.k = 1 := by
      change c.k < 2 at hk; omega
    · exact ⟨_, .inl ⟨at_k at0, rfl⟩⟩
    · exact ⟨_, .inr ⟨at_k at1, rfl⟩⟩
  | bitHl b =>
    simp only [Form.run, bitHl_next_iff]
    obtain at0 | at1 | at2 : c.k = 0 ∨ c.k = 1 ∨ c.k = 2 := by
      change c.k < 3 at hk; omega
    · exact ⟨_, .inl ⟨at_k at0, rfl⟩⟩
    · exact ⟨_, .inr (.inl ⟨at_k at1, rfl⟩)⟩
    · exact ⟨_, .inr (.inr ⟨at_k at2, rfl⟩)⟩
  | ldHlImm | ldhAImm | ldhImmA | incHl | decHl | ldHlSp | jr | jrCc =>
    simp only [Form.run, ldHlImm_next_iff, ldhAImm_next_iff, ldhImmA_next_iff, incHl_next_iff, decHl_next_iff,
      ldHlSp_next_iff, jr_next_iff, jrCc_next_iff]
    obtain at0 | at1 | at2 : c.k = 0 ∨ c.k = 1 ∨ c.k = 2 := by
      change c.k < 3 at hk; omega
    · exact ⟨_, .inl ⟨at_k at0, rfl⟩⟩
    · exact ⟨_, .inr (.inl ⟨at_k at1, rfl⟩)⟩
    · obtain ⟨v, hv⟩ := Continuation.heldFrom_iff.1 ready (by omega)
      exact ⟨_, .inr (.inr ⟨at_k at2, v, tmp hv, rfl⟩)⟩
  | ldPairImm | pop =>
    simp only [Form.run, ldPairImm_next_iff, pop_next_iff]
    obtain at0 | at1 | at2 : c.k = 0 ∨ c.k = 1 ∨ c.k = 2 := by
      change c.k < 3 at hk; omega
    · exact ⟨_, .inl ⟨at_k at0, rfl⟩⟩
    · exact ⟨_, .inr (.inl ⟨at_k at1, rfl⟩)⟩
    · obtain ⟨v, hv⟩ := Continuation.heldFrom_iff.1 ready (by omega)
      exact ⟨_, .inr (.inr ⟨at_k at2, v, lo hv, rfl⟩)⟩
  | push | rst =>
    simp only [Form.run, push_next_iff, rst_next_iff]
    obtain at0 | at1 | at2 | at3 : c.k = 0 ∨ c.k = 1 ∨ c.k = 2 ∨ c.k = 3 := by
      change c.k < 4 at hk; omega
    · exact ⟨_, .inl ⟨at_k at0, rfl⟩⟩
    · exact ⟨_, .inr (.inl ⟨at_k at1, rfl⟩)⟩
    · exact ⟨_, .inr (.inr (.inl ⟨at_k at2, rfl⟩))⟩
    · exact ⟨_, .inr (.inr (.inr ⟨at_k at3, rfl⟩))⟩
  | addSp =>
    simp only [Form.run, addSp_next_iff]
    obtain at0 | at1 | at2 | at3 : c.k = 0 ∨ c.k = 1 ∨ c.k = 2 ∨ c.k = 3 := by
      change c.k < 4 at hk; omega
    · exact ⟨_, .inl ⟨at_k at0, rfl⟩⟩
    · exact ⟨_, .inr (.inl ⟨at_k at1, rfl⟩)⟩
    · exact ⟨_, .inr (.inr (.inl ⟨at_k at2, rfl⟩))⟩
    · obtain ⟨v, hv⟩ := Continuation.heldFrom_iff.1 ready (by omega)
      exact ⟨_, .inr (.inr (.inr ⟨at_k at3, v, tmp hv, rfl⟩))⟩
  | rotHl | resHl | setHl =>
    simp only [Form.run, rotHl_next_iff, resHl_next_iff, setHl_next_iff]
    obtain at0 | at1 | at2 | at3 : c.k = 0 ∨ c.k = 1 ∨ c.k = 2 ∨ c.k = 3 := by
      change c.k < 4 at hk; omega
    · exact ⟨_, .inl ⟨at_k at0, rfl⟩⟩
    · exact ⟨_, .inr (.inl ⟨at_k at1, rfl⟩)⟩
    · exact ⟨_, .inr (.inr (.inl ⟨at_k at2, rfl⟩))⟩
    · obtain ⟨v, hv⟩ := Continuation.heldFrom_iff.1 ready (by omega)
      exact ⟨_, .inr (.inr (.inr ⟨at_k at3, v, tmp hv, rfl⟩))⟩
  | ldAAbs | ldAbsA | jp | jpCc | ret | reti =>
    simp only [Form.run, ldAAbs_next_iff, ldAbsA_next_iff, jp_next_iff, jpCc_next_iff, returnFrom_next_iff,
      returnFromInterrupt_next_iff]
    obtain ⟨ready_lo, ready_hi⟩ := (Bool.and_eq_true_iff ..).1 ready
    obtain at0 | at1 | at2 | at3 : c.k = 0 ∨ c.k = 1 ∨ c.k = 2 ∨ c.k = 3 := by
      change c.k < 4 at hk; omega
    · exact ⟨_, .inl ⟨at_k at0, rfl⟩⟩
    · exact ⟨_, .inr (.inl ⟨at_k at1, rfl⟩)⟩
    · exact ⟨_, .inr (.inr (.inl ⟨at_k at2, rfl⟩))⟩
    · obtain ⟨l, hl⟩ := Continuation.heldFrom_iff.1 ready_lo (by omega)
      obtain ⟨h, hh⟩ := Continuation.heldFrom_iff.1 ready_hi (by omega)
      exact ⟨_, .inr (.inr (.inr ⟨at_k at3, h, hi hh, l, lo hl, rfl⟩))⟩
  | ldAbsSp =>
    simp only [Form.run, ldAbsSp_next_iff]
    obtain ⟨ready_lo, ready_hi⟩ := (Bool.and_eq_true_iff ..).1 ready
    obtain at0 | at1 | at2 | at3 | at4 : c.k = 0 ∨ c.k = 1 ∨ c.k = 2 ∨ c.k = 3 ∨ c.k = 4 := by
      change c.k < 5 at hk; omega
    · exact ⟨_, .inl ⟨at_k at0, rfl⟩⟩
    · exact ⟨_, .inr (.inl ⟨at_k at1, rfl⟩)⟩
    · exact ⟨_, .inr (.inr (.inl ⟨at_k at2, rfl⟩))⟩
    · obtain ⟨l, hl⟩ := Continuation.heldFrom_iff.1 ready_lo (by omega)
      obtain ⟨h, hh⟩ := Continuation.heldFrom_iff.1 ready_hi (by omega)
      exact ⟨_, .inr (.inr (.inr (.inl ⟨at_k at3, h, hi hh, l, lo hl, rfl⟩)))⟩
    · obtain ⟨l, hl⟩ := Continuation.heldFrom_iff.1 ready_lo (by omega)
      obtain ⟨h, hh⟩ := Continuation.heldFrom_iff.1 ready_hi (by omega)
      exact ⟨_, .inr (.inr (.inr (.inr ⟨at_k at4, h, hi hh, l, lo hl, rfl⟩)))⟩
  | retCc cc =>
    simp only [Form.run, retCc_next_iff]
    obtain ⟨ready_lo, ready_hi⟩ := (Bool.and_eq_true_iff ..).1 ready
    obtain at0 | at1 | at2 | at3 | at4 : c.k = 0 ∨ c.k = 1 ∨ c.k = 2 ∨ c.k = 3 ∨ c.k = 4 := by
      change c.k < 5 at hk; omega
    · exact ⟨_, .inl ⟨at_k at0, rfl⟩⟩
    · exact ⟨_, .inr (.inl ⟨at_k at1, rfl⟩)⟩
    · exact ⟨_, .inr (.inr (.inl ⟨at_k at2, rfl⟩))⟩
    · exact ⟨_, .inr (.inr (.inr (.inl ⟨at_k at3, rfl⟩)))⟩
    · obtain ⟨l, hl⟩ := Continuation.heldFrom_iff.1 ready_lo (by omega)
      obtain ⟨h, hh⟩ := Continuation.heldFrom_iff.1 ready_hi (by omega)
      exact ⟨_, .inr (.inr (.inr (.inr ⟨at_k at4, h, hi hh, l, lo hl, rfl⟩)))⟩
  | call | callCc =>
    simp only [Form.run, call_next_iff, callCc_next_iff]
    obtain ⟨ready_lo, ready_hi⟩ := (Bool.and_eq_true_iff ..).1 ready
    obtain at0 | at1 | at2 | at3 | at4 | at5 : c.k = 0 ∨ c.k = 1 ∨ c.k = 2 ∨ c.k = 3 ∨ c.k = 4 ∨ c.k = 5 := by
      change c.k < 6 at hk; omega
    · exact ⟨_, .inl ⟨at_k at0, rfl⟩⟩
    · exact ⟨_, .inr (.inl ⟨at_k at1, rfl⟩)⟩
    · exact ⟨_, .inr (.inr (.inl ⟨at_k at2, rfl⟩))⟩
    · exact ⟨_, .inr (.inr (.inr (.inl ⟨at_k at3, rfl⟩)))⟩
    · exact ⟨_, .inr (.inr (.inr (.inr (.inl ⟨at_k at4, rfl⟩))))⟩
    · obtain ⟨l, hl⟩ := Continuation.heldFrom_iff.1 ready_lo (by omega)
      obtain ⟨h, hh⟩ := Continuation.heldFrom_iff.1 ready_hi (by omega)
      exact ⟨_, .inr (.inr (.inr (.inr (.inr ⟨at_k at5, h, hi hh, l, lo hl, rfl⟩))))⟩

/-! ### The locals stay written -/

/-- What is ready before a segment is ready after it, for the segment that comes next (R151). -/
theorem Form.run_localsReady (f : Form) {s t : State} {c : Continuation} (hc : s.cont = some c)
    (ready : localsReady f c = true) (h : Form.run f s = .next t) :
    ∀ d, t.cont = some d → localsReady f { d with k := d.k + 1 } = true := by
  cases f with
  | ldHlImm | ldhAImm | ldhImmA | incHl | decHl | ldHlSp | jr | jrCc =>
    simp only [Form.run, ldHlImm_next_iff, ldhAImm_next_iff, ldhImmA_next_iff, incHl_next_iff, decHl_next_iff,
      ldHlSp_next_iff, jr_next_iff, jrCc_next_iff] at h
    rcases h with ⟨m, rfl⟩ | ⟨m, rfl⟩ | ⟨m, v, hv, rfl⟩ <;> simp_all [localsReady, Continuation.heldFrom]
  | addSp =>
    rcases addSp_next_iff.1 h with ⟨m, rfl⟩ | ⟨m, rfl⟩ | ⟨m, rfl⟩ | ⟨m, v, hv, rfl⟩ <;>
      simp_all [localsReady, Continuation.heldFrom]
  | ldPairImm | pop =>
    simp only [Form.run, ldPairImm_next_iff, pop_next_iff] at h
    rcases h with ⟨m, rfl⟩ | ⟨m, rfl⟩ | ⟨m, v, hv, rfl⟩ <;> simp_all [localsReady, Continuation.heldFrom]
  | rotHl | resHl | setHl =>
    simp only [Form.run, rotHl_next_iff, resHl_next_iff, setHl_next_iff] at h
    rcases h with ⟨m, rfl⟩ | ⟨m, rfl⟩ | ⟨m, rfl⟩ | ⟨m, v, hv, rfl⟩ <;> simp_all [localsReady, Continuation.heldFrom]
  | ldAAbs | ldAbsA | jp | jpCc | ret | reti =>
    simp only [Form.run, ldAAbs_next_iff, ldAbsA_next_iff, jp_next_iff, jpCc_next_iff, returnFrom_next_iff,
      returnFromInterrupt_next_iff] at h
    rcases h with ⟨m, rfl⟩ | ⟨m, rfl⟩ | ⟨m, rfl⟩ | ⟨m, hi, hhi, lo, hlo, rfl⟩ <;>
      simp_all [localsReady, Continuation.heldFrom]
  | ldAbsSp =>
    rcases ldAbsSp_next_iff.1 h with
      ⟨m, rfl⟩ | ⟨m, rfl⟩ | ⟨m, rfl⟩ | ⟨m, hi, hhi, lo, hlo, rfl⟩ | ⟨m, hi, hhi, lo, hlo, rfl⟩ <;>
      simp_all [localsReady, Continuation.heldFrom]
  | retCc cc =>
    rcases (retCc_next_iff cc).1 h with ⟨m, rfl⟩ | ⟨m, rfl⟩ | ⟨m, rfl⟩ | ⟨m, rfl⟩ | ⟨m, hi, hhi, lo, hlo, rfl⟩ <;>
      simp_all [localsReady, Continuation.heldFrom]
  | call | callCc =>
    simp only [Form.run, call_next_iff, callCc_next_iff] at h
    rcases h with ⟨m, rfl⟩ | ⟨m, rfl⟩ | ⟨m, rfl⟩ | ⟨m, rfl⟩ | ⟨m, rfl⟩ | ⟨m, hi, hhi, lo, hlo, rfl⟩ <;>
      simp_all [localsReady, Continuation.heldFrom]
  | _ => exact fun _ _ => rfl

end Sys2Proof.Machine

/-! What a step can be, from any state: idle, the start of an acceptance sequence, a fetch with the first segment, or
the next segment of the routine in flight (R141, R142, R149, R155). -/

namespace Sys2Proof.Machine

/-! ### The situations of a step -/

/-- Neither halted nor stopped, all else the same. -/
def State.awake (s : State) : State := { s with halted := false, stopped := false }

/-- M1 of the acceptance sequence is done (R144, R410). -/
def State.accepted (s : State) : State :=
  { s with
    ime := false
    pendingVector := priorityVector s.pending
    cyclesLeft := 4
    cont := some ⟨.isr, 1, none, none, none, none, none, none⟩ }

/-- One cycle less is left, as it is while a segment runs (R150). -/
def State.counted (s : State) : State := { s with cyclesLeft := s.cyclesLeft - 1 }

theorem State.checkHalted_of_quiet {s : State} (halted : s.halted = true) (quiet : s.pending = 0) :
    s.checkHalted = .idle s := by
  rw [State.checkHalted, if_pos halted, if_neg (not_not.2 quiet)]

/-- Every step, by what its sample shows. -/
theorem step_cases (s : State) :
    (s.sample.cyclesLeft = 0 ∧ step s = .next s.sample) ∨
    (s.sample.cyclesLeft = 0 ∧ s.sample.halted = true ∧ s.sample.stopped = true ∧
      step s = .next { s.sample with stopped := false }) ∨
    (s.sample.cyclesLeft = 0 ∧ s.sample.accepts = true ∧ step s = .next s.sample.awake.accepted) ∨
    (s.sample.cyclesLeft = 0 ∧ s.sample.accepts = false ∧ step s = runSegment s.sample.awake.fetch) ∨
    (s.sample.cyclesLeft ≠ 0 ∧ step s = runSegment s.sample) := by
  by_cases left : s.sample.cyclesLeft = 0
  · by_cases stays : s.sample.stopped = true ∧ s.sample.stopWakes = false
    · exact .inl ⟨left, step_of_stays_stopped left stays.1 stays.2⟩
    have wakes (stopped : s.sample.stopped = true) : s.sample.stopWakes = true := by simpa [stopped] using stays
    by_cases quiet : s.sample.halted = true ∧ s.sample.pending = 0
    · obtain ⟨halted, pending⟩ := quiet
      cases stopped : s.sample.stopped with
      | false => exact .inl ⟨left, step_of_stays_halted left stopped halted pending⟩
      | true =>
        refine .inr (.inl ⟨left, halted, rfl, ?_⟩)
        rw [step_boundary left, State.boundary, if_pos stopped, if_pos (wakes stopped),
          State.checkHalted_of_quiet (s := { s.sample with stopped := false }) halted pending]
    · have pending (halted : s.sample.halted = true) : s.sample.pending ≠ 0 := fun h => quiet ⟨halted, h⟩
      have goes : step s = runSegment s.sample.awake.start := step_of_awake left wakes pending
      cases accepts : s.sample.accepts with
      | true =>
        refine .inr (.inr (.inl ⟨left, rfl, ?_⟩))
        rw [goes, State.start_of_accepts (s := s.sample.awake) accepts, runSegment_beginInterrupt]
        rfl
      | false =>
        refine .inr (.inr (.inr (.inl ⟨left, rfl, ?_⟩)))
        rw [goes, State.start_of_refuses (s := s.sample.awake) accepts]
  · exact .inr (.inr (.inr (.inr ⟨left, stepCycle_segment left⟩)))

/-- What the segment of a routine can be: one of the acceptance sequence, one of an instruction, or M2 of PREFIX CB
with the CB routine's action after it. -/
theorem runSegment_cases {s t : State} (h : runSegment s = .next t) :
    ∃ c u, s.cont = some c ∧ u.finish = t ∧
      ((c.routine = .isr ∧ acceptInterrupt s.counted = .next u) ∨
      (∃ i, c.routine = .instr i ∧ (i = .prefixCB → c.k = 0) ∧ exec i s.counted = .next u) ∨
      (c.routine = .instr .prefixCB ∧ c.k = 1 ∧
        exec (decodeCb (s.peek s.pc)) (s.counted.fetched.dispatchCb (s.peek s.pc)) = .next u)) := by
  obtain ⟨c, cont, u, ran, finished⟩ := runSegment_next_iff.1 h
  refine ⟨c, u, cont, finished, ?_⟩
  cases hr : c.routine with
  | isr =>
    rw [hr] at ran
    exact .inl ⟨rfl, ran⟩
  | instr i =>
    have ran : runInstr i s.counted = .next u := by rw [hr] at ran; exact ran
    by_cases hi : i = .prefixCB
    · subst hi
      obtain ⟨v, first, -⟩ := andThen_next_iff.1 ran
      rcases prefixCB_next_iff.1 first with ⟨m, _⟩ | ⟨m, _⟩
      · have hk : c.k = 0 := by simpa [State.counted, cont] using m
        rw [runInstr_prefixCB_M1 (s := s.counted) cont hr hk] at ran
        obtain rfl := Host.Outcome.next.inj ran
        exact .inr (.inl ⟨_, rfl, fun _ => hk, prefixCB_next_iff.2 (.inl ⟨m, rfl⟩)⟩)
      · have hk : c.k = 1 := by simpa [State.counted, cont] using m
        rw [runInstr_prefixCB_M2 (s := s.counted) cont hk] at ran
        exact .inr (.inr ⟨rfl, hk, ran⟩)
    · rw [runInstr_of_ne hi] at ran
      exact .inr (.inl ⟨i, rfl, fun e => absurd e hi, ran⟩)

/-! ### The segments of the acceptance sequence -/

theorem acceptInterrupt_next_iff {s t : State} :
    acceptInterrupt s = .next t ↔
      s.standsAt 0 ∧ { s with ime := false } = t ∨ s.standsAt 1 ∧ s = t ∨ s.standsAt 2 ∧ s.isrPushHigh = t ∨
      s.standsAt 3 ∧ s.isrPushLow = t ∨ s.standsAt 4 ∧ s.isrJump = t := by
  simp only [acceptInterrupt, perform_next_iff₅, act_eq, idle_eq, Host.Outcome.next.injEq]

/-- Both forms of M3: a push, and the pending vector. -/
theorem State.isrPushHigh_eq (s : State) : ∃ v,
    s.isrPushHigh = { (s.setSp (s.sp - 1)).memWrite (s.sp - 1) (highByte s.pc) with pendingVector := v } := by
  by_cases sp : s.sp = 0
  · exact ⟨_, State.isrPushHigh_of_sp_zero sp⟩
  · exact ⟨_, State.isrPushHigh_of_sp_ne sp⟩

/-- Both forms of M5: PC and IF. -/
theorem State.isrJump_eq (s : State) : ∃ pc ifl, s.isrJump = { s with pc := pc, ifl := ifl } := by
  rcases Option.eq_none_or_eq_some s.pendingVector with vector | ⟨i, vector⟩
  · exact ⟨_, _, State.isrJump_of_none vector⟩
  · exact ⟨_, _, State.isrJump_of_some vector⟩

/-! ### M2 of a CB routine, which runs in the step of the CB fetch -/

theorem State.standsAt_inj {s : State} {j k : Nat} (hj : s.standsAt j) (hk : s.standsAt k) : j = k :=
  Option.some.inj (hj.symm.trans hk)

/-- The families of the CB table. -/
def isCb : Form → Bool
  | .rotReg _ _ | .rotHl _ | .bitReg _ _ | .bitHl _ | .resReg _ _ | .resHl _ | .setReg _ _ | .setHl _ => true
  | _ => false

theorem isCb_decodeCb : ∀ b : Byte, isCb (decodeCb b).form = true := by decide

/-- M2 of a CB routine makes no bus access (R320). -/
theorem exec_decodeCb_M2 {b : Byte} {s t : State} (m2 : s.standsAt 1) (h : exec (decodeCb b) s = .next t) :
    t.busLog = s.busLog := by
  have cb := isCb_decodeCb b
  rw [exec_eq_run] at h
  generalize (decodeCb b).form = f at cb h
  cases f with
  | rotReg | bitReg | resReg | setReg =>
    simp only [Form.run, rotReg_next_iff, bitReg_next_iff, resReg_next_iff, setReg_next_iff] at h
    rcases h with ⟨_, rfl⟩ | ⟨_, rfl⟩ <;> rfl
  | rotHl | resHl | setHl =>
    simp only [Form.run, rotHl_next_iff, resHl_next_iff, setHl_next_iff] at h
    rcases h with ⟨_, rfl⟩ | ⟨_, rfl⟩ | ⟨m, _⟩ | ⟨m, _⟩
    · rfl
    · rfl
    · exact absurd (State.standsAt_inj m m2) (by decide)
    · exact absurd (State.standsAt_inj m m2) (by decide)
  | bitHl =>
    rcases (bitHl_next_iff _).1 h with ⟨_, rfl⟩ | ⟨_, rfl⟩ | ⟨m, _⟩
    · rfl
    · rfl
    · exact absurd (State.standsAt_inj m m2) (by decide)
  | _ => cases cb

/-! ### What no step changes, and what every step counts -/

/-- The same parameters, handlers, inputs to come and count of steps. -/
structure State.SameSetting (s t : State) : Prop where
  params : t.params = s.params
  busMap : t.busMap = s.busMap
  inputs : t.inputs = s.inputs
  clock : t.clock = s.clock

theorem State.SameSetting.trans {s t u : State} (h : s.SameSetting t) (g : t.SameSetting u) : s.SameSetting u :=
  ⟨g.params.trans h.params, g.busMap.trans h.busMap, g.inputs.trans h.inputs, g.clock.trans h.clock⟩

theorem exec_sameSetting {i : Instr} {s t : State} (h : exec i s = .next t) : s.SameSetting t := by
  obtain ⟨u, access, op⟩ := exec_effect h
  have kept := access.sameBlock
  have out := op.sameOutside
  exact ⟨out.params.trans kept.params, out.busMap.trans kept.busMap, out.inputs.trans kept.inputs,
    out.clock.trans kept.clock⟩

theorem acceptInterrupt_sameSetting {s t : State} (h : acceptInterrupt s = .next t) : s.SameSetting t := by
  rcases acceptInterrupt_next_iff.1 h with ⟨_, rfl⟩ | ⟨_, rfl⟩ | ⟨_, rfl⟩ | ⟨_, rfl⟩ | ⟨_, rfl⟩
  · exact ⟨rfl, rfl, rfl, rfl⟩
  · exact ⟨rfl, rfl, rfl, rfl⟩
  · obtain ⟨v, e⟩ := s.isrPushHigh_eq
    constructor <;> simp [e]
  · constructor <;> simp [State.isrPushLow]
  · obtain ⟨pc, ifl, e⟩ := s.isrJump_eq
    constructor <;> rw [e]

theorem State.dispatchCb_sameSetting (s : State) (b : Byte) : s.SameSetting (s.fetched.dispatchCb b) :=
  ⟨rfl, rfl, rfl, rfl⟩

theorem runSegment_sameSetting {s t : State} (h : runSegment s = .next t) : s.SameSetting t := by
  obtain ⟨c, u, _, rfl, ran⟩ := runSegment_cases h
  have ran : s.counted.SameSetting u := by
    rcases ran with ⟨_, ran⟩ | ⟨i, _, _, ran⟩ | ⟨_, _, ran⟩
    · exact acceptInterrupt_sameSetting ran
    · exact exec_sameSetting ran
    · exact (s.counted.dispatchCb_sameSetting _).trans (exec_sameSetting ran)
  constructor <;> simp [ran.params, ran.busMap, ran.inputs, ran.clock, State.counted]

theorem State.awake_fetch_sameSetting (s : State) : s.SameSetting s.awake.fetch := by
  constructor <;> simp [State.awake]

/-- A step keeps the setting of its sample. -/
theorem step_sameSetting {s t : State} (h : step s = .next t) : s.sample.SameSetting t := by
  rcases step_cases s with ⟨_, e⟩ | ⟨_, _, _, e⟩ | ⟨_, _, e⟩ | ⟨_, _, e⟩ | ⟨_, e⟩ <;> rw [e] at h
  · obtain rfl := Host.Outcome.next.inj h
    exact ⟨rfl, rfl, rfl, rfl⟩
  · obtain rfl := Host.Outcome.next.inj h
    exact ⟨rfl, rfl, rfl, rfl⟩
  · obtain rfl := Host.Outcome.next.inj h
    exact ⟨rfl, rfl, rfl, rfl⟩
  · exact s.sample.awake_fetch_sameSetting.trans (runSegment_sameSetting h)
  · exact runSegment_sameSetting h

theorem State.sample_params (s : State) : s.sample.params = s.params := by
  simp only [State.sample, State.takeReset]; split <;> rfl

theorem State.sample_busMap (s : State) : s.sample.busMap = s.busMap := by
  simp only [State.sample, State.takeReset]; split <;> rfl

theorem State.sample_busLog (s : State) : s.sample.busLog = s.busLog := by
  simp only [State.sample, State.takeReset]; split <;> rfl

/-! ### The bus accesses of a segment -/

/-- R85: a segment makes at most one access. -/
theorem runSegment_busLog {s t : State} (h : runSegment s = .next t) :
    t.busLog = s.busLog ∨ ∃ e, t.busLog = e :: s.busLog := by
  obtain ⟨c, u, cont, rfl, ran⟩ := runSegment_cases h
  rw [State.finish_busLog]
  rcases ran with ⟨_, ran⟩ | ⟨i, _, _, ran⟩ | ⟨_, hk, ran⟩
  · rcases acceptInterrupt_next_iff.1 ran with ⟨_, rfl⟩ | ⟨_, rfl⟩ | ⟨_, rfl⟩ | ⟨_, rfl⟩ | ⟨_, rfl⟩
    · exact .inl rfl
    · exact .inl rfl
    · obtain ⟨v, e⟩ := s.counted.isrPushHigh_eq
      exact .inr ⟨_, by rw [e]; rfl⟩
    · exact .inr ⟨_, rfl⟩
    · obtain ⟨pc, ifl, e⟩ := s.counted.isrJump_eq
      exact .inl (by rw [e]; rfl)
  · obtain ⟨v, access, op⟩ := exec_effect ran
    rw [op.sameOutside.busLog]
    exact access.busLog
  · refine .inr ⟨_, (exec_decodeCb_M2 ?_ ran).trans rfl⟩
    rw [State.dispatchCb_eq]
    simp [State.standsAt, State.counted, State.fetched, cont, hk]

/-- The opcode fetch is the one access of its step. -/
theorem runSegment_fetch_busLog {s t : State} (h : runSegment s.fetch = .next t) : t.busLog = s.fetch.busLog := by
  obtain ⟨c, u, cont, rfl, ran⟩ := runSegment_cases h
  rw [s.fetch_cont] at cont
  obtain rfl := Option.some.inj cont
  rw [State.finish_busLog]
  rcases ran with ⟨hr, _⟩ | ⟨i, _, _, ran⟩ | ⟨_, hk, _⟩
  · cases hr
  · obtain ⟨v, access, op⟩ := exec_effect ran
    rw [op.sameOutside.busLog, access.eq_of_M1 rfl]
    rfl
  · cases hk

end Sys2Proof.Machine

namespace Sys2Proof

open Sys2Proof.Machine

/-- Settles O8: an idle or an accepting step makes no access, a fetching step the fetch, any other its segment's. -/
theorem atMostOneBusTransactionPerStep : Obligations.AtMostOneBusTransactionPerStep := by
  unfold Obligations.AtMostOneBusTransactionPerStep
  intro s t h
  rw [← s.sample_busLog]
  rcases step_cases s with ⟨_, e⟩ | ⟨_, _, _, e⟩ | ⟨_, _, e⟩ | ⟨_, _, e⟩ | ⟨_, e⟩ <;> rw [e] at h
  · exact .inl (Host.Outcome.next.inj h ▸ rfl)
  · exact .inl (Host.Outcome.next.inj h ▸ rfl)
  · exact .inl (Host.Outcome.next.inj h ▸ rfl)
  · exact .inr ⟨_, (runSegment_fetch_busLog h).trans (State.fetch_busLog _)⟩
  · exact runSegment_busLog h

/-- Settles O55: the sample uses up the input and counts the step, and nothing after it changes the setting. -/
theorem parametersNeverChange : Obligations.ParametersNeverChange := by
  unfold Obligations.ParametersNeverChange
  intro s t h
  have kept := step_sameSetting h
  exact ⟨kept.params.trans s.sample_params, kept.busMap.trans s.sample_busMap, kept.inputs, kept.clock.trans rfl⟩

end Sys2Proof

/-! The invariant of the machine (R39, R43, R46, R153): every step keeps it, and under it every step answers. -/

namespace Sys2Proof.Machine

/-! ### The bus port and the two registers it guards -/

/-- What the bus port keeps: the memory's canonical form (notes/assumptions/3.md) and IE's unused bits (R39). -/
structure State.PortOk (s : State) : Prop where
  memory : Memory.wf s.mem = true
  ie : s.params.ieUpperStored = false → s.ie &&& 0xE0 = 0

theorem State.ieStored_unused {s : State} (h : s.params.ieUpperStored = false) (v : Byte) :
    s.ieStored v &&& 0xE0 = 0 := by
  have masked : ∀ v : Byte, v &&& 0x1F &&& 0xE0 = 0 := by decide
  simpa [State.ieStored, h] using masked v

theorem State.PortOk.store {s : State} (h : s.PortOk) (a : Word) (v : Byte) : (s.store a v).PortOk := by
  rcases s.store_cases a v with ⟨_, e⟩ | ⟨_, _, e⟩ | ⟨_, _, _, e⟩ | ⟨_, _, _, e⟩ <;> rw [e]
  · exact ⟨h.memory, h.ie⟩
  · exact ⟨h.memory, fun upper => State.ieStored_unused upper v⟩
  · exact ⟨Memory.wf_set h.memory a v, h.ie⟩
  · exact h

theorem State.PortOk.congr {s t : State} (h : s.PortOk) (mem : t.mem = s.mem) (ie : t.ie = s.ie)
    (params : t.params = s.params) : t.PortOk :=
  ⟨by rw [mem]; exact h.memory, by rw [ie, params]; exact h.ie⟩

theorem State.PortOk.memWrite {s : State} (h : s.PortOk) (a : Word) (v : Byte) : (s.memWrite a v).PortOk :=
  (h.store a v).congr rfl rfl rfl

theorem State.PortOk.accesses {s u : State} {a : Option Word} (h : s.PortOk) (access : s.Accesses a u) : u.PortOk := by
  cases access with
  | quiet | read => exact h.congr rfl rfl rfl
  | write a v _ => exact h.memWrite a v

theorem State.PortOk.operates {u t : State} {n : Nat} {f : Form} (h : u.PortOk) (op : u.Operates n f t) : t.PortOk :=
  h.congr op.sameOutside.mem op.sameOutside.ie op.sameOutside.params

/-! ### The end of a segment -/

theorem State.cont_of_stand {s t : State} {c : Continuation} (h : t.stand = s.stand) (hc : s.cont = some c) :
    ∃ d, t.cont = some d ∧ d.routine = c.routine ∧ d.k = c.k ∧ d.opAddr = c.opAddr ∧ d.op = c.op ∧ d.cbop = c.cbop := by
  rw [State.stand, State.stand, hc] at h
  obtain ⟨d, hd, e⟩ := Option.map_eq_some_iff.1 h
  simp only [Prod.mk.injEq] at e
  exact ⟨d, hd, e⟩

/-- The invariant after a segment, from what the segment leaves: `finish` counts the continuation on, or ends it. -/
theorem Inv.of_finish {t : State} {d : Continuation} (cont : t.cont = some d) (port : t.PortOk)
    (oneWait : ¬(t.halted = true ∧ t.stopped = true))
    (waits : t.halted = true ∨ t.stopped = true → t.cyclesLeft = 0)
    (haltBug : t.haltBug = true →
      t.halted = false ∧ t.stopped = false ∧ t.ime = false ∧ t.delay = false ∧ t.cyclesLeft = 0)
    (legal : t.cyclesLeft ≠ 0 → { d with k := d.k + 1 }.legal t.cyclesLeft t.pendingVector) : Inv t.finish where
  memoryCanonical := by simpa using port.memory
  oneWait := by simpa using oneWait
  waitsAtBoundary := by simpa using waits
  haltBugAwake := by simpa using haltBug
  ieStoredBits := by simpa using port.ie
  contExists := by
    by_cases left : t.cyclesLeft = 0
    · simp [State.finish_of_done left, left]
    · simp [State.finish_of_left left, left, cont]
  contLegal := by
    by_cases left : t.cyclesLeft = 0
    · simp [State.finish_of_done left]
    · simpa [State.finish_of_left left, cont] using legal left

/-! ### An instruction in flight -/

/-- The segments after which the machine waits, or the next fetch is doubled (R382, R384). -/
theorem State.Operates.waits {u t : State} {n : Nat} {f : Form} (op : u.Operates n f t) :
    (t.halted = u.halted ∧ t.stopped = u.stopped ∧ t.haltBug = u.haltBug) ∨
    (f = .halt ∧ t = { u with halted := true }) ∨ (f = .halt ∧ u.ime = false ∧ t = { u with haltBug := true }) ∨
    (f = .stop ∧ t = { u.setPc (u.pc + 1) with stopped := true }) := by
  cases op with
  | computes h => obtain ⟨r, p, c, rfl, _⟩ := h; exact .inl ⟨rfl, rfl, rfl⟩
  | halts =>
    rcases u.halt_cases with e | ⟨ime, _, e⟩
    · exact .inr (.inl ⟨rfl, e⟩)
    · exact .inr (.inr (.inl ⟨rfl, ime, e⟩))
  | stops => exact .inr (.inr (.inr ⟨rfl, rfl⟩))
  | dispatches | disables | enables | reports | returns => exact .inl ⟨rfl, rfl, rfl⟩

/-- What holds while a segment of `i` runs in `x`: its own cycle is already counted off (R150). -/
structure Running (i : Instr) (c : Continuation) (x : State) : Prop where
  cont : x.cont = some c
  routine : c.routine = .instr i
  left : c.k + 1 + x.cyclesLeft = i.cycles ∨ (i.cycles ≤ c.k ∧ c.k + 1 + x.cyclesLeft = i.takenCycles)
  ready : localsReady i.form c = true
  opcode : { c with k := c.k + 1 }.keepsOpcode i
  first : c.k = 0 → x.delay = false ∧ c.op.isSome = true ∧ c.opAddr.isSome = true
  port : x.PortOk
  halted : x.halted = false
  stopped : x.stopped = false
  haltBug : x.haltBug = false

/-- The condition is tested in the last segment of the declared count (R152). -/
theorem segmentCount_of_branchOf {f : Form} {cc : Cond} {k n : Nat} (h : branchOf f = some (cc, k, n)) :
    segmentCount f = k + 1 + n := by
  cases f with
  | jrCc | jpCc | callCc | retCc => cases h; rfl
  | _ => cases h

theorem extraCycles_cases (f : Form) (s : State) :
    extraCycles f s = 0 ∨ ∃ cc k, branchOf f = some (cc, k, extraCycles f s) ∧ s.standsAt k := by
  unfold extraCycles
  split
  · next cc k n h =>
    split
    · next met => exact .inr ⟨cc, k, h, met.1⟩
    · exact .inl rfl
  · exact .inl rfl

namespace Running

variable {i : Instr} {c : Continuation} {x t : State}

/-- The segment lies within the schedule. -/
theorem k_lt (h : Running i c x) : c.k < segmentCount i.form := by
  obtain ⟨taken, untaken⟩ := counts i
  rcases h.left with left | ⟨_, left⟩ <;> omega

theorem exec_total (h : Running i c x) : ∃ t, exec i x = .next t := by
  rw [exec_eq_run]
  exact Form.run_total i.form h.cont h.k_lt h.ready fun k => (h.first k).2

/-- The cycles left after the segment are those of the rest of the routine. -/
theorem left_after (h : Running i c x) :
    c.k + 1 + (x.cyclesLeft + extraCycles i.form x) = i.cycles ∨
    (i.cycles ≤ c.k + 1 ∧ c.k + 1 + (x.cyclesLeft + extraCycles i.form x) = i.takenCycles) := by
  obtain ⟨taken, untaken⟩ := counts i
  rcases extraCycles_cases i.form x with none | ⟨cc, k, branch, stands⟩
  · rw [none]
    rcases h.left with left | left <;> omega
  · have hk : c.k = k := by simpa [State.standsAt, h.cont] using stands
    have total := segmentCount_of_branchOf branch
    have extra : branchExtra i.form = extraCycles i.form x := by rw [branchExtra, branch]
    rcases h.left with left | left <;> omega

/-- An instruction of one segment is in its first and last. -/
theorem of_single (h : Running i c x) (single : segmentCount i.form = 1) (plain : branchExtra i.form = 0) :
    c.k = 0 ∧ x.cyclesLeft = 0 := by
  obtain ⟨taken, untaken⟩ := counts i
  rcases h.left with left | left <;> omega

/-- Of an instruction in flight, a segment moves only the locals and the cycles left. -/
theorem after (h : Running i c x) (whole : i = .prefixCB → c.k = 0) (ran : exec i x = .next t) :
    t.stand = x.stand ∧ t.cyclesLeft = x.cyclesLeft + extraCycles i.form x := by
  by_cases hi : i = .prefixCB
  · subst hi
    have m1 : x.standsAt 0 := by simp [h.cont, whole rfl]
    rcases prefixCB_next_iff.1 ran with ⟨_, rfl⟩ | ⟨m2, _⟩
    · exact ⟨rfl, rfl⟩
    · exact absurd (State.standsAt_inj m1 m2) (by decide)
  · have other : i.form ≠ .prefixCB := mt (eq_of_form_eq (j := .prefixCB)) hi
    obtain ⟨u, access, op⟩ := exec_effect ran
    exact ⟨(op.stand other).trans (State.stand_eq_of_cont access.sameBlock.cont),
      (op.cyclesLeft other).trans (congrArg (· + _) access.sameBlock.cyclesLeft)⟩

/-- What the segment leaves of the wait states and the halt bug (R382, R384). -/
theorem waits_after (h : Running i c x) (ran : exec i x = .next t) :
    ¬(t.halted = true ∧ t.stopped = true) ∧ (t.halted = true ∨ t.stopped = true → t.cyclesLeft = 0) ∧
    (t.haltBug = true → t.halted = false ∧ t.stopped = false ∧ t.ime = false ∧ t.delay = false ∧ t.cyclesLeft = 0) := by
  obtain ⟨u, access, op⟩ := exec_effect ran
  have kept := access.sameBlock
  have halted : u.halted = false := kept.halted.trans h.halted
  have stopped : u.stopped = false := kept.stopped.trans h.stopped
  have haltBug : u.haltBug = false := kept.haltBug.trans h.haltBug
  have left (single : segmentCount i.form = 1) (plain : branchExtra i.form = 0) : u.cyclesLeft = 0 :=
    kept.cyclesLeft.trans (h.of_single single plain).2
  rcases op.waits with ⟨e, e', e''⟩ | ⟨form, rfl⟩ | ⟨form, ime, rfl⟩ | ⟨form, rfl⟩
  · simp [e, e', e'', halted, stopped, haltBug]
  · simp [stopped, haltBug, left (by rw [form]; rfl) (by rw [form]; rfl)]
  · have delay : u.delay = false := kept.delay.trans (h.first (h.of_single (by rw [form]; rfl) (by rw [form]; rfl)).1).1
    simp [halted, stopped, ime, delay, left (by rw [form]; rfl) (by rw [form]; rfl)]
  · simp [halted, haltBug, left (by rw [form]; rfl) (by rw [form]; rfl)]

/-- After a segment the invariant holds again, the continuation counted on or gone. -/
theorem finish_inv (h : Running i c x) (whole : i = .prefixCB → c.k = 0) (ran : exec i x = .next t) : Inv t.finish := by
  obtain ⟨stand, left⟩ := h.after whole ran
  obtain ⟨d, cont, routine, k, -, op, cbop⟩ := State.cont_of_stand stand h.cont
  obtain ⟨oneWait, waits, haltBug⟩ := h.waits_after ran
  obtain ⟨u, access, operates⟩ := exec_effect ran
  refine Inv.of_finish cont ((h.port.accesses access).operates operates) oneWait waits haltBug fun _ => ⟨by simp, ?_⟩
  rw [routine, h.routine]
  refine ⟨?_, ?_, ?_⟩
  · rw [left]
    simpa [k] using h.left_after
  · exact Form.run_localsReady i.form h.cont h.ready (exec_eq_run i x ▸ ran) d cont
  · have opcode := h.opcode
    simpa [Continuation.keepsOpcode, op, cbop, k] using opcode

end Running

/-! ### Where an instruction is in flight -/

/-- R46: the opcode is kept from one segment to the next. -/
theorem Continuation.keepsOpcode_next {c : Continuation} {i : Instr} (h : c.keepsOpcode i) :
    { c with k := c.k + 1 }.keepsOpcode i := by
  unfold Continuation.keepsOpcode at h ⊢
  cases hi : i.opcode with
  | base op => simpa [hi] using h
  | cb b =>
    obtain ⟨op, cbop, k⟩ : c.op = some 0xCB ∧ c.cbop = some b ∧ 2 ≤ c.k := by simpa [hi] using h
    exact ⟨op, cbop, Nat.le_succ_of_le k⟩

theorem Inv.port {s : State} (h : Inv s) : s.PortOk := ⟨h.memoryCanonical, h.ieStoredBits⟩

/-- R43: with cycles left there is no wait and no halt bug. -/
theorem Inv.awake {s : State} (h : Inv s) (left : s.cyclesLeft ≠ 0) :
    s.halted = false ∧ s.stopped = false ∧ s.haltBug = false := by
  refine ⟨?_, ?_, ?_⟩ <;> refine Bool.eq_false_of_not_eq_true fun e => left ?_
  · exact h.waitsAtBoundary (.inl e)
  · exact h.waitsAtBoundary (.inr e)
  · obtain ⟨-, -, -, -, none⟩ := h.haltBugAwake e
    exact none

/-- Between boundaries the instruction in flight has a segment to run. -/
theorem Inv.running {s : State} (h : Inv s) (left : s.cyclesLeft ≠ 0) {c : Continuation} (cont : s.cont = some c)
    {i : Instr} (routine : c.routine = .instr i) : Running i c s.counted := by
  obtain ⟨halted, stopped, haltBug⟩ := h.awake left
  obtain ⟨k, legal⟩ := h.contLegal c cont
  rw [routine] at legal
  obtain ⟨count, ready, opcode⟩ := legal
  exact {
    cont, routine, ready, halted, stopped, haltBug
    left := by simp only [State.counted]; omega
    opcode := Continuation.keepsOpcode_next opcode
    first := fun e => by omega
    port := h.port.congr rfl rfl rfl }

/-- The continuation of an opcode fetch. -/
def fetchedCont (s : State) : Continuation :=
  { Continuation.fresh (.instr (decodeBase (s.peek s.pc))) with opAddr := some s.pc, op := some (s.peek s.pc) }

theorem localsReady_of_first {f : Form} {c : Continuation} (h : c.k = 0) : localsReady f c = true := by
  cases f <;> simp [localsReady, Continuation.heldFrom, h]

/-- After the fetch the instruction's M1 is to run. -/
theorem running_fetch {s : State} (port : s.PortOk) :
    Running (decodeBase (s.peek s.pc)) (fetchedCont s) s.awake.fetch.counted where
  cont := rfl
  routine := rfl
  left := by
    have positive : ∀ op : Byte, 0 < declaredBase op := by decide
    have left : s.awake.fetch.counted.cyclesLeft = declaredBase (s.peek s.pc) - 1 := rfl
    rw [left, cycles_decodeBase]
    exact .inl (Nat.add_sub_cancel' (positive _))
  ready := localsReady_of_first rfl
  opcode := by rw [Continuation.keepsOpcode, opcode_decodeBase]; rfl
  first := fun _ => ⟨s.awake.fetch_delay, rfl, rfl⟩
  port := port.congr s.awake.fetch_mem s.awake.fetch_ie s.awake.fetch_params
  halted := s.awake.fetch_halted
  stopped := s.awake.fetch_stopped
  haltBug := s.awake.fetch_haltBug

/-- R149: after the dispatch of M2 the CB routine's M2 is to run. -/
theorem Running.dispatchCb {c : Continuation} {x : State} (h : Running .prefixCB c x) (hk : c.k = 1) (b : Byte) :
    Running (decodeCb b) { c with routine := .instr (decodeCb b), cbop := some b } (x.fetched.dispatchCb b) where
  cont := by rw [State.dispatchCb_eq]; simp [State.fetched, h.cont]
  routine := rfl
  left := by
    have two : ∀ b : Byte, 2 ≤ declaredCb b := by decide
    have left := h.left
    rw [show Instr.cycles .prefixCB = 2 from rfl, show Instr.takenCycles .prefixCB = 2 from rfl] at left
    have := two b
    rw [State.dispatchCb_eq, cycles_decodeCb]
    simp only [State.fetched, State.setPc_cyclesLeft, State.noteRead_cyclesLeft]
    omega
  ready := by
    have cb := isCb_decodeCb b
    generalize (decodeCb b).form = f at cb
    cases f <;> simp_all [localsReady, Continuation.heldFrom, isCb]
  opcode := by
    have op : c.op = some 0xCB := h.opcode
    simp [Continuation.keepsOpcode, opcode_decodeCb, op, hk]
  first := fun e => absurd (hk.symm.trans e) (by decide)
  port := h.port.congr rfl rfl rfl
  halted := h.halted
  stopped := h.stopped
  haltBug := h.haltBug

/-! ### The segment of an instruction in flight -/

namespace Running

variable {i : Instr} {c : Continuation} {s t : State}

theorem runSegment_inv (h : Running i c s.counted) (ran : runSegment s = .next t) : Inv t := by
  obtain ⟨d, u, cont, rfl, segment⟩ := runSegment_cases ran
  obtain rfl : d = c := Option.some.inj (cont.symm.trans h.cont)
  rcases segment with ⟨routine, _⟩ | ⟨j, routine, whole, ran⟩ | ⟨routine, m2, ran⟩
  · exact Routine.noConfusion (h.routine.symm.trans routine)
  · obtain rfl := Routine.instr.inj (h.routine.symm.trans routine)
    exact h.finish_inv whole ran
  · obtain rfl := Routine.instr.inj (h.routine.symm.trans routine)
    exact (h.dispatchCb m2 _).finish_inv (fun e => absurd e (decodeCb_ne_prefixCB _)) ran

theorem runSegment_total (h : Running i c s.counted) : ∃ t, runSegment s = .next t := by
  suffices total : ∃ u, runInstr i s.counted = .next u by
    obtain ⟨u, ran⟩ := total
    exact ⟨_, runSegment_next_iff.2 ⟨c, h.cont, u, by rw [h.routine]; exact ran, rfl⟩⟩
  by_cases hi : i = .prefixCB
  · subst hi
    have two : c.k < 2 := h.k_lt
    obtain m1 | m2 : c.k = 0 ∨ c.k = 1 := by omega
    · exact ⟨_, runInstr_prefixCB_M1 h.cont h.routine m1⟩
    · rw [runInstr_prefixCB_M2 h.cont m2]
      exact (h.dispatchCb m2 _).exec_total
  · rw [runInstr_of_ne hi]
    exact h.exec_total

end Running

/-! ### The segment of the acceptance sequence -/

/-- What a segment of the acceptance sequence leaves; M3 alone can choose the vector again (R412). -/
theorem acceptInterrupt_keeps {s t : State} (h : acceptInterrupt s = .next t) :
    t.cont = s.cont ∧ t.cyclesLeft = s.cyclesLeft ∧ t.halted = s.halted ∧ t.stopped = s.stopped ∧
    t.haltBug = s.haltBug ∧ (s.PortOk → t.PortOk) ∧ (s.standsAt 2 ∨ t.pendingVector = s.pendingVector) := by
  rcases acceptInterrupt_next_iff.1 h with ⟨_, rfl⟩ | ⟨_, rfl⟩ | ⟨m3, rfl⟩ | ⟨_, rfl⟩ | ⟨_, rfl⟩
  · exact ⟨rfl, rfl, rfl, rfl, rfl, fun port => port.congr rfl rfl rfl, .inr rfl⟩
  · exact ⟨rfl, rfl, rfl, rfl, rfl, id, .inr rfl⟩
  · obtain ⟨v, e⟩ := s.isrPushHigh_eq
    have port (port : s.PortOk) : s.isrPushHigh.PortOk := by
      have lowered : (s.setSp (s.sp - 1)).PortOk := port.congr rfl rfl rfl
      exact (lowered.memWrite (s.sp - 1) (highByte s.pc)).congr (by rw [e]) (by rw [e]) (by rw [e])
    exact ⟨by simp [e], by simp [e], by simp [e], by simp [e], by simp [e], port, .inl m3⟩
  · have port (port : s.PortOk) : s.isrPushLow.PortOk := by
      have lowered : (s.setSp (s.sp - 1)).PortOk := port.congr rfl rfl rfl
      exact lowered.memWrite (s.sp - 1) (lowByte s.pc)
    exact ⟨by simp [State.isrPushLow], by simp [State.isrPushLow], by simp [State.isrPushLow],
      by simp [State.isrPushLow], by simp [State.isrPushLow], port, .inr (by simp [State.isrPushLow])⟩
  · obtain ⟨pc, ifl, e⟩ := s.isrJump_eq
    rw [e]
    exact ⟨rfl, rfl, rfl, rfl, rfl, fun port => port.congr rfl rfl rfl, .inr rfl⟩

theorem acceptInterrupt_total {s : State} {c : Continuation} (cont : s.cont = some c) (hk : c.k < 5) :
    ∃ t, acceptInterrupt s = .next t := by
  have stands {n} (e : c.k = n) : s.standsAt n := by simp [cont, e]
  obtain m1 | m2 | m3 | m4 | m5 : c.k = 0 ∨ c.k = 1 ∨ c.k = 2 ∨ c.k = 3 ∨ c.k = 4 := by omega
  · exact ⟨_, acceptInterrupt_M1 (stands m1)⟩
  · exact ⟨_, acceptInterrupt_M2 (stands m2)⟩
  · exact ⟨_, acceptInterrupt_M3 (stands m3)⟩
  · exact ⟨_, acceptInterrupt_M4 (stands m4)⟩
  · exact ⟨_, acceptInterrupt_M5 (stands m5)⟩

/-- R410: the sequence in flight counts to 5, and has a vector before M3. -/
theorem Inv.isr_legal {s : State} (h : Inv s) {c : Continuation} (cont : s.cont = some c) (routine : c.routine = .isr) :
    1 ≤ c.k ∧ c.k + s.cyclesLeft = 5 ∧ (c.k ≤ 2 → s.pendingVector.isSome = true) := by
  obtain ⟨k, legal⟩ := h.contLegal c cont
  rw [routine] at legal
  exact ⟨k, legal⟩

theorem Inv.finish_isr {s u : State} (h : Inv s) (left : s.cyclesLeft ≠ 0) {c : Continuation} (cont : s.cont = some c)
    (routine : c.routine = .isr) (ran : acceptInterrupt s.counted = .next u) : Inv u.finish := by
  obtain ⟨first, count, vector⟩ := h.isr_legal cont routine
  obtain ⟨halted, stopped, haltBug⟩ := h.awake left
  obtain ⟨cont', left', halted', stopped', haltBug', port, vector'⟩ := acceptInterrupt_keeps ran
  replace halted' : u.halted = false := halted'.trans halted
  replace stopped' : u.stopped = false := stopped'.trans stopped
  replace haltBug' : u.haltBug = false := haltBug'.trans haltBug
  refine Inv.of_finish (cont'.trans cont) (port (h.port.congr rfl rfl rfl)) (by simp [halted'])
    (by simp [halted', stopped']) (by simp [haltBug']) fun _ => ⟨by simp, ?_⟩
  rw [routine]
  have counted : u.cyclesLeft = s.cyclesLeft - 1 := left'
  refine ⟨by simp only; omega, fun two => ?_⟩
  rcases vector' with m3 | same
  · have hk : c.k = 2 := by simpa [State.counted, cont] using m3
    simp only at two
    omega
  · rw [same]
    exact vector (Nat.le_of_succ_le two)

/-! ### The step -/

theorem Inv.sample {s : State} (h : Inv s) : Inv s.sample := by
  cases reset : s.input.reset with
  | true =>
    rw [State.sample_of_reset reset]
    exact Tests.inv_of_boundary h.memoryCanonical (by simp [State.resetBlock]) rfl (by simp [State.resetBlock])
      (by simp [State.resetBlock]) rfl
  | false =>
    rw [State.sample_of_noReset reset]
    exact ⟨h.memoryCanonical, h.oneWait, h.waitsAtBoundary, h.haltBugAwake, h.ieStoredBits, h.contExists, h.contLegal⟩

/-- R144: the first segment of the sequence leaves the invariant. -/
theorem Inv.accepted {s : State} (h : Inv s) (accepts : s.accepts = true) : Inv s.awake.accepted := by
  obtain ⟨ime, pending⟩ := State.accepts_eq_true_iff.1 accepts
  have haltBug : s.haltBug = false := Bool.eq_false_of_not_eq_true fun bug => by
    obtain ⟨-, -, off, -⟩ := h.haltBugAwake bug
    exact absurd (ime.symm.trans off) (by decide)
  have vector : (priorityVector s.pending).isSome = true :=
    Option.isSome_iff_ne_none.2 (mt priorityVector_eq_none.1 pending)
  exact {
    memoryCanonical := h.memoryCanonical
    oneWait := by simp [State.awake, State.accepted]
    waitsAtBoundary := by simp [State.awake, State.accepted]
    haltBugAwake := by simp [State.awake, State.accepted, haltBug]
    ieStoredBits := h.ieStoredBits
    contExists := by simp [State.accepted]
    contLegal := by
      rintro c cont
      obtain rfl := Option.some.inj cont
      exact ⟨le_rfl, rfl, fun _ => vector⟩ }

theorem Inv.runSegment_inv {s t : State} (h : Inv s) (left : s.cyclesLeft ≠ 0) (ran : runSegment s = .next t) :
    Inv t := by
  obtain ⟨c, cont, -⟩ := runSegment_next_iff.1 ran
  cases routine : c.routine with
  | isr =>
    obtain ⟨d, u, cont', rfl, segment⟩ := runSegment_cases ran
    obtain rfl : d = c := Option.some.inj (cont'.symm.trans cont)
    simp only [routine, reduceCtorEq, false_and, exists_false, or_false, true_and] at segment
    exact h.finish_isr left cont routine segment
  | instr i => exact (h.running left cont routine).runSegment_inv ran

theorem Inv.runSegment_total {s : State} (h : Inv s) (left : s.cyclesLeft ≠ 0) : ∃ t, runSegment s = .next t := by
  obtain ⟨c, cont⟩ := Option.ne_none_iff_exists'.1 (mt h.contExists.1 left)
  cases routine : c.routine with
  | isr =>
    obtain ⟨-, count, -⟩ := h.isr_legal cont routine
    obtain ⟨u, ran⟩ := acceptInterrupt_total (s := s.counted) cont (by omega)
    exact ⟨_, runSegment_next_iff.2 ⟨c, cont, u, by rw [routine]; exact ran, rfl⟩⟩
  | instr i => exact (h.running left cont routine).runSegment_total

end Sys2Proof.Machine

namespace Sys2Proof

open Sys2Proof.Machine

/-- Settles O49: the sample keeps the invariant, and so does each thing that the step can then be. -/
theorem everyStepKeepsTheInvariant : Obligations.EveryStepKeepsTheInvariant := by
  unfold Obligations.EveryStepKeepsTheInvariant
  intro s t inv h
  have sampled := inv.sample
  rcases step_cases s with ⟨_, e⟩ | ⟨_, halted, stopped, _⟩ | ⟨_, accepts, e⟩ | ⟨_, _, e⟩ | ⟨left, e⟩
  · exact Host.Outcome.next.inj (e.symm.trans h) ▸ sampled
  · exact absurd ⟨halted, stopped⟩ sampled.oneWait
  · exact Host.Outcome.next.inj (e.symm.trans h) ▸ sampled.accepted accepts
  · exact (running_fetch sampled.port).runSegment_inv (e.symm.trans h)
  · exact sampled.runSegment_inv left (e.symm.trans h)

/-- Settles O50: what runs is an instruction with a segment to run, or the acceptance sequence within its five. -/
theorem noConditionStopsTheStep : Obligations.NoConditionStopsTheStep := by
  unfold Obligations.NoConditionStopsTheStep
  intro s inv
  have sampled := inv.sample
  rcases step_cases s with ⟨_, e⟩ | ⟨_, _, _, e⟩ | ⟨_, _, e⟩ | ⟨_, _, e⟩ | ⟨left, e⟩
  · exact ⟨_, e⟩
  · exact ⟨_, e⟩
  · exact ⟨_, e⟩
  · exact e ▸ (running_fetch sampled.port).runSegment_total
  · exact e ▸ sampled.runSegment_total left

end Sys2Proof

/-! Interrupts and the step (R38, R143, R154, R406 to R410, R421): where a sequence begins, who writes IME, what the
halt bug does to the next step, and that the request is sampled first. -/

namespace Sys2Proof.Machine

/-! ### An instruction in flight stays one -/

theorem Running.runSegment_routine {i : Instr} {c d : Continuation} {s t : State} (h : Running i c s.counted)
    (ran : runSegment s = .next t) (cont : t.cont = some d) : ∃ j, d.routine = .instr j := by
  obtain ⟨e, u, cont', rfl, segment⟩ := runSegment_cases ran
  obtain rfl : e = c := Option.some.inj (cont'.symm.trans h.cont)
  suffices kept : ∃ d' j, u.cont = some d' ∧ d'.routine = .instr j by
    obtain ⟨d', j, cont'', routine⟩ := kept
    by_cases left : u.cyclesLeft = 0
    · simp [State.finish_of_done left] at cont
    · rw [State.finish_of_left left, State.onCont_cont, cont''] at cont
      obtain rfl := Option.some.inj cont
      exact ⟨j, routine⟩
  rcases segment with ⟨routine, _⟩ | ⟨j, routine, whole, own⟩ | ⟨routine, m2, own⟩
  · exact Routine.noConfusion (h.routine.symm.trans routine)
  · obtain rfl := Routine.instr.inj (h.routine.symm.trans routine)
    obtain ⟨d', cont'', routine', -⟩ := State.cont_of_stand (h.after whole own).1 h.cont
    exact ⟨d', i, cont'', routine'.trans h.routine⟩
  · obtain rfl := Routine.instr.inj (h.routine.symm.trans routine)
    have dispatched := h.dispatchCb m2 (s.peek s.pc)
    obtain ⟨d', cont'', routine', -⟩ :=
      State.cont_of_stand (dispatched.after (fun e => absurd e (decodeCb_ne_prefixCB _)) own).1 dispatched.cont
    exact ⟨d', _, cont'', routine'⟩

/-! ### IME -/

/-- R38: of the instructions DI and RETI write IME, RETI in its last segment. -/
theorem exec_ime {i : Instr} {s t : State} (h : exec i s = .next t) (di : i ≠ .di) :
    t.ime = s.ime ∨ (i = .reti ∧ s.standsAt 3 ∧ t.ime = true) := by
  by_cases hi : i = .reti
  · subst hi
    rcases returnFromInterrupt_next_iff.1 h with ⟨_, rfl⟩ | ⟨_, rfl⟩ | ⟨_, rfl⟩ | ⟨m4, _, _, _, _, rfl⟩
    · exact .inl rfl
    · exact .inl rfl
    · exact .inl rfl
    · exact .inr ⟨rfl, m4, rfl⟩
  · obtain ⟨u, access, op⟩ := exec_effect h
    exact .inl ((op.ime (mt (eq_of_form_eq (j := .di)) di) (mt (eq_of_form_eq (j := .reti)) hi)).trans
      access.sameBlock.ime)

theorem decodeCb_ne_of_not_isCb {b : Byte} {i : Instr} (h : isCb i.form = false) : decodeCb b ≠ i := fun e =>
  absurd ((isCb_decodeCb b).symm.trans (e ▸ h)) (by decide)

/-- The segment of a fetched instruction writes IME where the instruction is DI. -/
theorem runSegment_fetch_ime {s t : State} (h : runSegment s.awake.fetch = .next t) :
    t.ime = (s.delay || s.ime) ∨ (decodeBase (s.peek s.pc) = .di ∧ t.ime = false) := by
  obtain ⟨c, u, cont, rfl, segment⟩ := runSegment_cases h
  obtain rfl := Option.some.inj cont
  rw [State.finish_ime]
  have fetched : s.awake.fetch.counted.ime = (s.delay || s.ime) := s.awake.fetch_ime
  rcases segment with ⟨routine, _⟩ | ⟨i, routine, _, own⟩ | ⟨_, m2, _⟩
  · cases routine
  · obtain rfl := Routine.instr.inj routine
    by_cases di : decodeBase (s.peek s.pc) = .di
    · refine .inr ⟨di, ?_⟩
      have first : exec .di s.awake.fetch.counted = .next u := di ▸ own
      obtain ⟨_, rfl⟩ := di_next_iff.1 (exec_di _ ▸ first)
      rfl
    · rcases exec_ime own di with same | ⟨_, m4, _⟩
      · exact .inl (same.trans fetched)
      · cases m4
  · cases m2

/-- A segment after the first writes IME where it is the last of RETI. -/
theorem Inv.runSegment_ime {s t : State} (inv : Inv s) (left : s.cyclesLeft ≠ 0) (h : runSegment s = .next t) :
    t.ime = s.ime ∨ (t.ime = true ∧ ∃ c, s.cont = some c ∧ c.routine = .instr .reti ∧ c.k = 3) := by
  obtain ⟨c, u, cont, rfl, segment⟩ := runSegment_cases h
  rw [State.finish_ime]
  rcases segment with ⟨routine, own⟩ | ⟨i, routine, _, own⟩ | ⟨routine, m2, own⟩
  · obtain ⟨first, -⟩ := inv.isr_legal cont routine
    rcases acceptInterrupt_next_iff.1 own with ⟨m1, _⟩ | ⟨_, rfl⟩ | ⟨_, rfl⟩ | ⟨_, rfl⟩ | ⟨_, rfl⟩
    · have : c.k = 0 := by simpa [State.counted, cont] using m1
      omega
    · exact .inl rfl
    · obtain ⟨v, e⟩ := s.counted.isrPushHigh_eq
      exact .inl (by rw [e]; simp [State.counted])
    · exact .inl (by simp [State.isrPushLow, State.counted])
    · obtain ⟨pc, ifl, e⟩ := s.counted.isrJump_eq
      exact .inl (by rw [e]; rfl)
  · have running := inv.running left cont routine
    have di : i ≠ .di := fun e => by
      subst e
      have first : c.k < 1 := running.k_lt
      have := (inv.contLegal c cont).1
      omega
    rcases exec_ime own di with same | ⟨rfl, m4, set⟩
    · exact .inl same
    · exact .inr ⟨set, c, cont, routine, by simpa [State.counted, cont] using m4⟩
  · rcases exec_ime own (decodeCb_ne_of_not_isCb rfl) with same | ⟨reti, _⟩
    · exact .inl same
    · exact absurd reti (decodeCb_ne_of_not_isCb rfl)

/-- Who writes IME in a step, seen from its sample: the acceptance, the EI delay, DI, RETI. -/
theorem Inv.step_ime {s t : State} (inv : Inv s) (h : step s = .next t) :
    t.ime = s.sample.ime ∨
    (t.ime = false ∧ ∃ d, t.cont = some d ∧ d.routine = .isr ∧ d.k = 1) ∨
    (t.ime = true ∧ s.sample.delay = true ∧ s.sample.cyclesLeft = 0) ∨
    (t.ime = false ∧ s.sample.cyclesLeft = 0 ∧ decodeBase (s.sample.peek s.sample.pc) = .di) ∨
    (t.ime = true ∧ ∃ c, s.sample.cont = some c ∧ c.routine = .instr .reti ∧ c.k = 3) := by
  rcases step_cases s with ⟨_, e⟩ | ⟨_, _, _, e⟩ | ⟨_, _, e⟩ | ⟨left, _, e⟩ | ⟨left, e⟩ <;> rw [e] at h
  · exact .inl (Host.Outcome.next.inj h ▸ rfl)
  · exact .inl (Host.Outcome.next.inj h ▸ rfl)
  · obtain rfl := Host.Outcome.next.inj h
    exact .inr (.inl ⟨rfl, _, rfl, rfl, rfl⟩)
  · rcases runSegment_fetch_ime h with same | ⟨di, clear⟩
    · cases delay : s.sample.delay with
      | false => exact .inl (by simpa [delay] using same)
      | true => exact .inr (.inr (.inl ⟨by simpa [delay] using same, rfl, left⟩))
    · exact .inr (.inr (.inr (.inl ⟨clear, left, di⟩)))
  · rcases inv.sample.runSegment_ime left h with same | reti
    · exact .inl same
    · exact .inr (.inr (.inr (.inr reti)))

/-! ### The step of a segment that answers -/

theorem runSegment_of_exec {s u : State} {c : Continuation} {i : Instr} (cont : s.cont = some c)
    (routine : c.routine = .instr i) (whole : i ≠ .prefixCB) (ran : exec i s.counted = .next u) :
    runSegment s = .next u.finish :=
  runSegment_next_iff.2 ⟨c, cont, u, by rw [routine]; exact (runInstr_of_ne whole _).trans ran, rfl⟩

theorem runSegment_of_accept {s u : State} {c : Continuation} (cont : s.cont = some c) (routine : c.routine = .isr)
    (ran : acceptInterrupt s.counted = .next u) : runSegment s = .next u.finish :=
  runSegment_next_iff.2 ⟨c, cont, u, by rw [routine]; exact ran, rfl⟩

theorem ofLdHlReg_ne_prefixCB (r : Reg8) : Instr.ofLdHlReg r ≠ .prefixCB := by cases r <;> decide

/-! ### Stores to IF -/

theorem State.Accesses.of_some {s u : State} {a : Word} (h : s.Accesses (some a) u) : ∃ v, u = s.memWrite a v := by
  cases h with
  | write _ v _ => exact ⟨v, rfl⟩

theorem State.memWrite_ifl_of_if (s : State) (v : Byte) : (s.memWrite 0xFF0F v).ifl = v.setWidth 5 :=
  congrArg State.ifl (s.store_of_if v)

/-- R413: the serviced bit is cleared, every other is kept. -/
theorem getLsbD_clear_bit (x : BitVec 5) {i : Nat} (hi : i < 5) :
    (x &&& ~~~((1 : BitVec 5) <<< i)).getLsbD i = false ∧
    ∀ j, j ≠ i → (x &&& ~~~((1 : BitVec 5) <<< i)).getLsbD j = x.getLsbD j := by
  refine ⟨by simp [hi], fun j hj => ?_⟩
  by_cases h5 : j < 5
  · simp only [BitVec.getLsbD_and, BitVec.getLsbD_not, BitVec.getLsbD_shiftLeft, h5]
    by_cases below : j < i
    · simp [below]
    · have : j - i ≠ 0 := by omega
      simp [below, this]
  · simp [BitVec.getLsbD_of_ge _ _ (Nat.le_of_not_lt h5)]

theorem IntSource.index_lt (i : IntSource) : i.index < 5 := by cases i <;> decide

end Sys2Proof.Machine

namespace Sys2Proof

open Sys2Proof.Machine

/-- Settles O52: only the acceptance makes a continuation of the sequence; an instruction in flight stays one. -/
theorem interruptsBeginOnlyAtBoundaries : Obligations.InterruptsBeginOnlyAtBoundaries := by
  unfold Obligations.InterruptsBeginOnlyAtBoundaries
  intro s t d inv h cont isr
  have sampled := inv.sample
  have not_instr : ¬∃ j, d.routine = .instr j := fun ⟨j, e⟩ => Routine.noConfusion (isr.symm.trans e)
  have no_cont (left : s.sample.cyclesLeft = 0) : s.sample.cont ≠ some d := by simp [sampled.contExists.2 left]
  rcases step_cases s with ⟨left, e⟩ | ⟨left, _, _, e⟩ | ⟨left, accepts, _⟩ | ⟨_, _, e⟩ | ⟨left, e⟩
  · obtain rfl := Host.Outcome.next.inj (e.symm.trans h)
    exact absurd cont (no_cont left)
  · obtain rfl := Host.Outcome.next.inj (e.symm.trans h)
    exact absurd cont (no_cont left)
  · exact .inr ⟨left, State.accepts_eq_true_iff.1 accepts⟩
  · exact absurd ((running_fetch sampled.port).runSegment_routine (e.symm.trans h) cont) not_instr
  · obtain ⟨c, cont', -⟩ := runSegment_next_iff.1 (e.symm.trans h)
    cases routine : c.routine with
    | isr => exact .inl ⟨c, cont', routine, left⟩
    | instr i =>
      exact absurd ((sampled.running left cont' routine).runSegment_routine (e.symm.trans h) cont) not_instr

/-- Settles O53: from the writers of IME in a step, with a reset apart. -/
theorem imeHasFourWriters : Obligations.ImeHasFourWriters := by
  unfold Obligations.ImeHasFourWriters
  intro s t inv h
  have writers := inv.step_ime h
  cases reset : s.input.reset with
  | true =>
    rw [State.sample_of_reset reset] at writers
    refine ⟨fun _ set => ?_, fun _ _ => .inl rfl⟩
    simp [State.resetBlock, set] at writers
  | false =>
    rw [State.sample_of_noReset reset] at writers ⊢
    refine ⟨fun off set => ?_, fun on clear => .inr ?_⟩
    · simpa [off, set] using writers
    · simpa [on, clear] using writers

/-- Settles O54: with the halt bug IME is off and the machine awake at a boundary. -/
theorem haltBugDoublesTheNextFetch : Obligations.HaltBugDoublesTheNextFetch := by
  unfold Obligations.HaltBugDoublesTheNextFetch
  intro s inv bug noReset
  obtain ⟨halted, stopped, ime, -, left⟩ := inv.haltBugAwake bug
  have sample := State.sample_of_noReset noReset
  have pc : s.sample.pc = s.pc := by rw [sample]
  refine ⟨⟨?_, ?_, ?_, State.accepts_eq_false_iff.2 (.inl ?_)⟩, ?_, s.sample.fetch_haltBug, _, s.sample.fetch_cont,
    ?_, ?_⟩
  · rw [sample]; exact left
  · rw [sample]; exact stopped
  · rw [sample]; exact halted
  · rw [sample]; exact ime
  · rw [State.fetch_pc, if_pos (by rw [sample]; exact bug), pc]
  · rw [pc]
  · rw [pc]

/-- Settles O46: the sample first, then the acceptance, a segment's store, the pushes, or M5's clear over it. -/
theorem requestsAreSampledFirst : Obligations.RequestsAreSampledFirst := by
  unfold Obligations.RequestsAreSampledFirst
  intro s noReset
  have sample := State.sample_of_noReset noReset
  have running (left : s.cyclesLeft ≠ 0) : step s = runSegment s.sample :=
    stepCycle_segment (by rw [sample]; exact left)
  refine ⟨by rw [sample], fun left stopped halted ime pending => ?_, fun n c r left cont m2 routine hl => ?_,
    fun c i inv cont routine store => ?_, fun n c left cont routine => ?_⟩
  · have accepts : s.sample.accepts = true :=
      State.accepts_eq_true_iff.2 ⟨by rw [sample]; exact ime, by rw [sample]; exact pending⟩
    rw [step_of_awake_boundary (by rw [sample]; exact left) (by rw [sample]; exact stopped)
      (by rw [sample]; exact halted), State.start_of_accepts accepts, runSegment_beginInterrupt]
    exact ⟨_, rfl, _, rfl, rfl⟩
  · have ran : exec (.ofLdHlReg r) s.sample.counted =
        .next (s.sample.counted.memWrite s.sample.counted.hl (s.sample.counted.reg r)) := by
      rw [exec_ofLdHlReg]
      exact (ldHlReg_next_iff r).2 (.inr ⟨by simp [State.counted, sample, cont, m2], rfl⟩)
    refine ⟨_, (running (by omega)).trans
      (runSegment_of_exec (by rw [sample]; exact cont) routine (ofLdHlReg_ne_prefixCB r) ran), ?_⟩
    rw [State.finish_ifl, show s.sample.counted.hl = 0xFF0F by rw [sample]; exact hl, State.memWrite_ifl_of_if, sample]
    rfl
  · have left : s.cyclesLeft ≠ 0 := fun e => by simp [inv.contExists.2 e] at cont
    have sampled : s.sample.cont = some c := by rw [sample]; exact cont
    have flight := inv.sample.running (by rw [sample]; exact left) sampled routine
    obtain ⟨u, ran⟩ := flight.exec_total
    obtain ⟨w, access, op⟩ := exec_effect ran
    have here : storeAddr i.form s.sample.counted = some 0xFF0F := by rw [sample]; exact store
    obtain ⟨v, rfl⟩ := State.Accesses.of_some (here ▸ access)
    have whole : i ≠ .prefixCB := by
      rintro rfl
      exact nomatch (show (none : Option Word) = some 0xFF0F from store)
    refine ⟨u.finish, v, (running left).trans (runSegment_of_exec sampled routine whole ran), ?_, ?_⟩
    · rw [State.finish_busLog, op.sameOutside.busLog, sample]
      rfl
    · rw [State.finish_ifl, op.sameOutside.ifl, State.memWrite_ifl_of_if]
  · have sampled : s.sample.cont = some c := by rw [sample]; exact cont
    have stands {k} (hk : c.k = k) : s.sample.counted.standsAt k := by simp [State.counted, sampled, hk]
    have ends {u} (ran : acceptInterrupt s.sample.counted = .next u) : step s = .next u.finish :=
      (running (by omega)).trans (runSegment_of_accept sampled routine ran)
    have sp (hsp : s.sp - 1 = 0xFF0F) : s.sample.counted.sp - 1 = 0xFF0F := by rw [sample]; exact hsp
    refine ⟨fun m3 hsp => ⟨_, ends (acceptInterrupt_M3 (stands m3)), ?_⟩,
      fun m4 hsp => ⟨_, ends (acceptInterrupt_M4 (stands m4)), ?_⟩,
      fun src m5 vector => ⟨_, ends (acceptInterrupt_M5 (stands m5)), ?_⟩⟩
    · obtain ⟨v, e⟩ := s.sample.counted.isrPushHigh_eq
      rw [State.finish_ifl, e, sp hsp, State.memWrite_ifl_of_if, sample]
      rfl
    · have pushed : s.sample.counted.isrPushLow = (s.sample.counted.setSp (s.sample.counted.sp - 1)).memWrite
          (s.sample.counted.sp - 1) (lowByte s.sample.counted.pc) := rfl
      rw [State.finish_ifl, pushed, sp hsp, State.memWrite_ifl_of_if, sample]
      rfl
    · have vector' : s.sample.counted.pendingVector = some src := by rw [sample]; exact vector
      rw [State.finish_ifl, State.isrJump_of_some vector', sample]
      exact getLsbD_clear_bit _ src.index_lt

end Sys2Proof

/-! Two sequences of steps on a stack in memory, with no input to come: the acceptance of an interrupt (R414), and PUSH
then POP (the last sentence of R237). -/

namespace Sys2Proof.Machine

/-! ### Runs -/

/-- `n` steps, as the host's `run` makes them. -/
def steps : Nat → Seg
  | 0, s => .next s
  | n + 1, s => andThen (step s) (steps n)

theorem run_eq_steps (n : Nat) (s : State) : Host.Core.run Sys2Proof.core n s = steps n s := by
  induction n generalizing s with
  | zero => rfl
  | succ n ih =>
    have unrolled := Host.Core.run.eq_2 Sys2Proof.core s n
    rw [show Sys2Proof.core.step s = step s from rfl] at unrolled
    refine unrolled.trans ?_
    rw [steps]
    cases step s with
    | next t => exact ih t
    | fault r => rfl
    | refused r => rfl

theorem steps_of_step {s t : State} (h : step s = .next t) (n : Nat) : steps (n + 1) s = steps n t := by
  rw [steps, h, andThen_next]

theorem steps_one (s : State) : steps 1 s = step s := by
  rw [steps]
  cases step s <;> rfl

theorem steps_add {s t : State} {m : Nat} (h : steps m s = .next t) (n : Nat) : steps (m + n) s = steps n t := by
  induction m generalizing s with
  | zero => rw [Nat.zero_add, Host.Outcome.next.inj h]
  | succ m ih =>
    rw [steps] at h
    obtain ⟨u, first, rest⟩ := andThen_next_iff.1 h
    rw [Nat.succ_add, steps_of_step first, ih rest]

/-! ### Steps with no input to come -/

theorem State.sample_of_no_input {s : State} (h : s.inputs = []) : s.sample = { s with clock := s.clock + 1 } := by
  have input : s.input = ⟨false, 0⟩ := by rw [State.input, h]
  rw [State.sample_of_noReset (by rw [input]), input, h, List.tail_nil, BitVec.ofNat_eq_ofNat, BitVec.or_zero]

/-- A step with no input has counted itself and one cycle less is left, where its segment begins. -/
def State.ticked (s : State) : State := { s with clock := s.clock + 1, cyclesLeft := s.cyclesLeft - 1 }

section
variable {s u : State} {c : Continuation}

theorem step_of_exec {i : Instr} (quiet : s.inputs = []) (left : s.cyclesLeft ≠ 0) (cont : s.cont = some c)
    (routine : c.routine = .instr i) (whole : i ≠ .prefixCB) (ran : exec i s.ticked = .next u) :
    step s = .next u.finish := by
  have sample := State.sample_of_no_input quiet
  rw [stepCycle_segment (by rw [sample]; exact left), sample]
  exact runSegment_of_exec (s := { s with clock := s.clock + 1 }) cont routine whole ran

theorem step_of_accept (quiet : s.inputs = []) (left : s.cyclesLeft ≠ 0) (cont : s.cont = some c)
    (routine : c.routine = .isr) (ran : acceptInterrupt s.ticked = .next u) : step s = .next u.finish := by
  have sample := State.sample_of_no_input quiet
  rw [stepCycle_segment (by rw [sample]; exact left), sample]
  exact runSegment_of_accept (s := { s with clock := s.clock + 1 }) cont routine ran

end

/-! ### Memory at a stack address -/

/-- The address is memory, and neither IF nor IE. -/
structure State.InRam (s : State) (a : Word) : Prop where
  notIf : a ≠ ifAddr
  notIe : a ≠ ieAddr
  ram : s.handler a = some .ram

theorem State.InRam.memWrite {s : State} {a : Word} (h : s.InRam a) (v : Byte) :
    s.memWrite a v =
      { s with mem := Memory.set s.mem a.toNat v, busLog := ⟨s.clock, .write, a, v⟩ :: s.busLog } := by
  rw [State.memWrite, State.store_of_bus h.notIf h.notIe, if_pos h.ram]

theorem State.InRam.content_eq {s t : State} {a : Word} {m : List Host.Cell} (h : s.InRam a) (mem : t.mem = m) :
    t.content a = Memory.get m a.toNat := by
  rw [State.content, if_neg h.notIf, if_neg h.notIe, mem]

/-- Two stores at neighbouring addresses, high byte first, and what they leave. -/
def pushed (m : List Host.Cell) (sp : Word) (v : Word) : List Host.Cell :=
  Memory.set (Memory.set m (sp - 1).toNat (highByte v)) (sp - 2).toNat (lowByte v)

theorem pushed_get_high {m : List Host.Cell} (wf : Memory.wf m = true) (sp v : Word) :
    Memory.get (pushed m sp v) (sp - 1).toNat = highByte v := by
  rw [pushed, Memory.get_set_other _ _ (by bv_omega), Memory.get_set_same wf]

theorem pushed_get_low {m : List Host.Cell} (wf : Memory.wf m = true) (sp v : Word) :
    Memory.get (pushed m sp v) (sp - 2).toNat = lowByte v :=
  Memory.get_set_same (Memory.wf_set wf _ _) _

theorem pushed_get_other (m : List Host.Cell) {sp v b : Word} (high : b ≠ sp - 1) (low : b ≠ sp - 2) :
    Memory.get (pushed m sp v) b.toNat = Memory.get m b.toNat := by
  rw [pushed, Memory.get_set_other _ _ (by bv_omega), Memory.get_set_other _ _ (by bv_omega)]

/-! ### The acceptance -/

/-- The acceptance sequence from `s`, with `k` segments done: SP, the memory and the bus record apart, all is as the
start has left it. -/
def accepting (s : State) (k : Nat) (sp : Word) (mem : List Host.Cell) (log : List BusEvent) : State :=
  { s with
    clock := s.clock + k
    ime := false
    pendingVector := priorityVector s.pending
    cyclesLeft := 5 - k
    cont := some { Continuation.fresh .isr with k := k }
    regs := { s.regs with sp := sp }
    mem := mem
    busLog := log }

section
variable {s : State} {sp : Word} {mem : List Host.Cell} {log : List BusEvent}

theorem step_accept_M1 (quiet : s.inputs = []) (left : s.cyclesLeft = 0) (halted : s.halted = false)
    (stopped : s.stopped = false) (ime : s.ime = true) (pending : s.pending ≠ 0) :
    step s = .next (accepting s 1 s.sp s.mem s.busLog) := by
  have sample := State.sample_of_no_input quiet
  have accepts : s.sample.accepts = true := by rw [sample]; exact State.accepts_eq_true_iff.2 ⟨ime, pending⟩
  rw [step_of_awake_boundary (by rw [sample]; exact left) (by rw [sample]; exact stopped)
    (by rw [sample]; exact halted), State.start_of_accepts accepts, runSegment_beginInterrupt, sample]
  rfl

theorem step_accept_M2 (quiet : s.inputs = []) :
    step (accepting s 1 sp mem log) = .next (accepting s 2 sp mem log) :=
  step_of_accept (s := accepting s 1 sp mem log) quiet (Nat.succ_ne_zero _) rfl rfl (acceptInterrupt_M2 rfl)

theorem step_accept_M3 (quiet : s.inputs = []) (ram : s.InRam (sp - 1)) :
    ∃ log', step (accepting s 2 sp mem log) =
      .next (accepting s 3 (sp - 1) (Memory.set mem (sp - 1).toNat (highByte s.pc)) log') := by
  have m3 := acceptInterrupt_M3 (s := (accepting s 2 sp mem log).ticked) rfl
  have notIe : (accepting s 2 sp mem log).ticked.sp ≠ 0 := fun e : sp = 0 => ram.notIe (by rw [e]; rfl)
  have ram' : ((accepting s 2 sp mem log).ticked.setSp (sp - 1)).InRam (sp - 1) := ⟨ram.notIf, ram.notIe, ram.ram⟩
  rw [State.isrPushHigh_of_sp_ne notIe] at m3
  exact ⟨_, (step_of_accept (s := accepting s 2 sp mem log) quiet (Nat.succ_ne_zero _) rfl rfl
    (m3.trans (congrArg _ (ram'.memWrite _)))).trans rfl⟩

theorem step_accept_M4 (quiet : s.inputs = []) (ram : s.InRam (sp - 1)) :
    ∃ log', step (accepting s 3 sp mem log) =
      .next (accepting s 4 (sp - 1) (Memory.set mem (sp - 1).toNat (lowByte s.pc)) log') := by
  have m4 := acceptInterrupt_M4 (s := (accepting s 3 sp mem log).ticked) rfl
  have ram' : ((accepting s 3 sp mem log).ticked.setSp (sp - 1)).InRam (sp - 1) := ⟨ram.notIf, ram.notIe, ram.ram⟩
  exact ⟨_, (step_of_accept (s := accepting s 3 sp mem log) quiet (Nat.succ_ne_zero _) rfl rfl
    (m4.trans (congrArg _ (ram'.memWrite _)))).trans rfl⟩

theorem step_accept_M5 {i : IntSource} (quiet : s.inputs = []) (vector : priorityVector s.pending = some i) :
    step (accepting s 4 sp mem log) = .next { accepting s 5 sp mem log with
      pc := i.vector, ifl := s.ifl &&& ~~~((1 : BitVec 5) <<< i.index), cont := none } := by
  have m5 := acceptInterrupt_M5 (s := (accepting s 4 sp mem log).ticked) rfl
  rw [State.isrJump_of_some (s := (accepting s 4 sp mem log).ticked) vector] at m5
  exact step_of_accept (s := accepting s 4 sp mem log) quiet (Nat.succ_ne_zero _) rfl rfl m5

/-- R414: the five steps, where the stack is memory. -/
theorem steps_accept {i : IntSource} (quiet : s.inputs = []) (left : s.cyclesLeft = 0) (halted : s.halted = false)
    (stopped : s.stopped = false) (ime : s.ime = true) (pending : s.pending ≠ 0)
    (vector : priorityVector s.pending = some i) (high : s.InRam (s.sp - 1)) (low : s.InRam (s.sp - 2)) :
    ∃ log, steps 5 s = .next { accepting s 5 (s.sp - 2) (pushed s.mem s.sp s.pc) log with
      pc := i.vector, ifl := s.ifl &&& ~~~((1 : BitVec 5) <<< i.index), cont := none } := by
  have two : s.sp - 1 - 1 = s.sp - 2 := by bv_omega
  obtain ⟨log, m3⟩ := step_accept_M3 (mem := s.mem) (log := s.busLog) quiet high
  obtain ⟨log', m4⟩ := step_accept_M4 (sp := s.sp - 1) (log := log)
    (mem := Memory.set s.mem (s.sp - 1).toNat (highByte s.pc)) quiet (two ▸ low)
  rw [two] at m4
  refine ⟨log', ?_⟩
  rw [steps_of_step (step_accept_M1 quiet left halted stopped ime pending), steps_of_step (step_accept_M2 quiet),
    steps_of_step m3, steps_of_step m4, steps_one]
  exact step_accept_M5 quiet vector

end

end Sys2Proof.Machine

namespace Sys2Proof

open Sys2Proof.Machine

/-- Settles O45: the five steps one after another, and the two bytes of PC on the stack. -/
theorem interruptEntryTakesFiveSteps : Obligations.InterruptEntryTakesFiveSteps := by
  unfold Obligations.InterruptEntryTakesFiveSteps
  intro s wf left halted stopped quiet ime pending stack
  obtain ⟨i, vector⟩ := Option.ne_none_iff_exists'.1 (mt priorityVector_eq_none.1 pending)
  have ram (a : Word) (ha : a ∈ [s.sp - 1, s.sp - 2]) : s.InRam a :=
    ⟨(stack a ha).1, (stack a ha).2.1, (stack a ha).2.2⟩
  have high := ram (s.sp - 1) (by simp)
  have low := ram (s.sp - 2) (by simp)
  obtain ⟨log, run⟩ := steps_accept quiet left halted stopped ime pending vector high low
  refine ⟨_, i, (run_eq_steps 5 s).trans run, vector, rfl, rfl, rfl, rfl, rfl, ?_, ?_, rfl, rfl, rfl, rfl⟩
  · exact (high.content_eq rfl).trans (pushed_get_high wf s.sp s.pc)
  · exact (low.content_eq rfl).trans (pushed_get_low wf s.sp s.pc)

end Sys2Proof

/-! PUSH and then POP (R236, R237), with no input to come and the stack in memory. -/

namespace Sys2Proof.Machine

/-! ### The fetch of an instruction whose M1 is empty -/

/-- An awake boundary that fetches, whatever is requested, and the fetch advances PC. -/
structure Resting (s : State) : Prop where
  inputs : s.inputs = []
  left : s.cyclesLeft = 0
  halted : s.halted = false
  stopped : s.stopped = false
  ime : s.ime = false
  delay : s.delay = false
  haltBug : s.haltBug = false

theorem State.fetch_plain {s : State} (delay : s.delay = false) (bug : s.haltBug = false) :
    s.fetch = { s with
      pc := s.pc + 1
      busLog := ⟨s.clock, .read, s.pc, s.peek s.pc⟩ :: s.busLog
      cont := some (fetchedCont s)
      cyclesLeft := declaredBase (s.peek s.pc) } := by
  have passed : (s.noteRead s.pc).passOpcode = (s.noteRead s.pc).setPc (s.pc + 1) := if_neg (by simp [bug])
  have taken : ((s.noteRead s.pc).setPc (s.pc + 1)).takeDelay = (s.noteRead s.pc).setPc (s.pc + 1) :=
    if_neg (by simp [delay])
  rw [State.fetch, passed, taken]
  rfl

/-- `s` after `n` further steps that move SP, the memory, the bus record and the continuation. -/
def stacking (s : State) (n : Nat) (sp : Word) (mem : List Host.Cell) (log : List BusEvent) (c : Option Continuation)
    (left : Nat) : State :=
  { s with
    clock := s.clock + n, regs := { s.regs with sp := sp }, mem := mem, busLog := log, cont := c, cyclesLeft := left }

/-- The fetch, and nothing else, where M1 of the instruction is empty and more segments follow. -/
theorem Resting.step_fetch {s : State} {i : Instr} (h : Resting s) (device : s.handler s.pc ≠ some .device)
    (byte : decodeBase (s.peek s.pc) = i) (whole : i ≠ .prefixCB) (m1 : ∀ u : State, u.standsAt 0 → exec i u = .next u)
    (more : 2 ≤ i.cycles) :
    ∃ (log : List BusEvent) (c : Continuation), c.routine = .instr i ∧ step s = .next
      (stacking { s with pc := s.pc + 1 } 1 s.sp s.mem log (some { c with k := 1 }) (i.cycles - 1)) := by
  have sample := State.sample_of_no_input h.inputs
  have peek : { s with clock := s.clock + 1 }.peek s.pc = s.peek s.pc := State.peek_eq_of_content rfl rfl device
  have fetches : s.fetchesNext := by
    refine ⟨?_, ?_, ?_, State.accepts_eq_false_iff.2 (.inl ?_)⟩ <;> rw [sample]
    exacts [h.left, h.stopped, h.halted, h.ime]
  have fetched := State.fetch_plain (s := { s with clock := s.clock + 1 }) h.delay h.haltBug
  have cycles : declaredBase ({ s with clock := s.clock + 1 }.peek s.pc) = i.cycles := by
    rw [peek, ← cycles_decodeBase, byte]
  have routine : (fetchedCont { s with clock := s.clock + 1 }).routine = .instr i := by
    rw [fetchedCont, peek, byte]; rfl
  rw [step_of_fetchesNext fetches, sample, runSegment_of_exec (State.fetch_cont _) routine whole (m1 _ rfl), fetched,
    State.finish_of_left (by simp only [State.counted]; omega), cycles]
  exact ⟨_, _, routine, rfl⟩

/-! ### The segments of PUSH and POP after the fetch -/

theorem State.InRam.peek_eq {s t : State} {a : Word} {m : List Host.Cell} (h : s.InRam a) (map : t.busMap = s.busMap)
    (mem : t.mem = m) : t.peek a = Memory.get m a.toNat := by
  have ram : t.handler a = some .ram := by rw [State.handler, map]; exact h.ram
  rw [State.peek_of_bus _ h.notIf h.notIe, State.busAnswer, ram, mem]

theorem ofPush_ne_prefixCB (q : StackPair) : Instr.ofPush q ≠ .prefixCB := by cases q <;> decide
theorem ofPop_ne_prefixCB (q : StackPair) : Instr.ofPop q ≠ .prefixCB := by cases q <;> decide

section
variable {s : State} {q : StackPair} {n : Nat} {sp : Word} {mem : List Host.Cell} {log : List BusEvent}
  {c : Continuation}

theorem stacking_ticked_sp (c : Option Continuation) (left : Nat) :
    (stacking s n sp mem log c left).ticked.sp = sp := rfl

theorem step_stacking {i : Instr} {u : State} {k left : Nat} (quiet : s.inputs = []) (routine : c.routine = .instr i)
    (whole : i ≠ .prefixCB)
    (ran : exec i (stacking s n sp mem log (some { c with k := k }) (left + 1)).ticked = .next u) :
    step (stacking s n sp mem log (some { c with k := k }) (left + 1)) = .next u.finish :=
  step_of_exec (s := stacking s n sp mem log (some { c with k := k }) (left + 1)) quiet (Nat.succ_ne_zero _) rfl routine
    whole ran

theorem step_push_M2 (quiet : s.inputs = []) (routine : c.routine = .instr (.ofPush q)) :
    step (stacking s n sp mem log (some { c with k := 1 }) 3) =
      .next (stacking s (n + 1) (sp - 1) mem log (some { c with k := 2 }) 2) := by
  have ran := (push_next_iff q (s := (stacking s n sp mem log (some { c with k := 1 }) 3).ticked)).2
    (.inr (.inl ⟨rfl, rfl⟩))
  rw [← exec_ofPush] at ran
  exact step_stacking quiet routine (ofPush_ne_prefixCB q) ran

theorem step_push_M3 (quiet : s.inputs = []) (routine : c.routine = .instr (.ofPush q)) (ram : s.InRam sp) :
    ∃ log', step (stacking s n sp mem log (some { c with k := 2 }) 2) =
      .next (stacking s (n + 1) (sp - 1) (Memory.set mem sp.toNat (highByte (s.regs.stackPair q))) log'
        (some { c with k := 3 }) 1) := by
  have ran := push_M3 q (s := (stacking s n sp mem log (some { c with k := 2 }) 2).ticked) rfl
  have ram' : (stacking s n sp mem log (some { c with k := 2 }) 2).ticked.InRam sp := ⟨ram.notIf, ram.notIe, ram.ram⟩
  rw [stacking_ticked_sp, ram'.memWrite, ← exec_ofPush] at ran
  exact ⟨_, step_stacking quiet routine (ofPush_ne_prefixCB q) ran⟩

theorem step_push_M4 (quiet : s.inputs = []) (routine : c.routine = .instr (.ofPush q)) (ram : s.InRam sp) :
    ∃ log', step (stacking s n sp mem log (some { c with k := 3 }) 1) =
      .next (stacking s (n + 1) sp (Memory.set mem sp.toNat (lowByte (s.regs.stackPair q))) log' none 0) := by
  have ran := (push_next_iff q (s := (stacking s n sp mem log (some { c with k := 3 }) 1).ticked)).2
    (.inr (.inr (.inr ⟨rfl, rfl⟩)))
  have ram' : (stacking s n sp mem log (some { c with k := 3 }) 1).ticked.InRam sp := ⟨ram.notIf, ram.notIe, ram.ram⟩
  rw [stacking_ticked_sp, ram'.memWrite, ← exec_ofPush] at ran
  exact ⟨_, step_stacking quiet routine (ofPush_ne_prefixCB q) ran⟩

theorem step_pop_M2 (quiet : s.inputs = []) (routine : c.routine = .instr (.ofPop q)) (ram : s.InRam sp) :
    ∃ log', step (stacking s n sp mem log (some { c with k := 1 }) 2) =
      .next (stacking s (n + 1) (sp + 1) mem log'
        (some { c with k := 2, lo := some (Memory.get mem sp.toNat) }) 1) := by
  have ran := pop_M2 q (s := (stacking s n sp mem log (some { c with k := 1 }) 2).ticked) rfl
  have peek : (stacking s n sp mem log (some { c with k := 1 }) 2).ticked.peek sp = Memory.get mem sp.toNat :=
    ram.peek_eq rfl rfl
  rw [stacking_ticked_sp, peek, ← exec_ofPop] at ran
  exact ⟨_, step_stacking quiet routine (ofPop_ne_prefixCB q) ran⟩

theorem step_pop_M3 {lo : Byte} (quiet : s.inputs = []) (routine : c.routine = .instr (.ofPop q)) (ram : s.InRam sp)
    (holds : c.lo = some lo) :
    ∃ log', step (stacking s n sp mem log (some { c with k := 2 }) 1) = .next
      { stacking s (n + 1) (sp + 1) mem log' none 0 with
        regs := { s.regs with sp := sp + 1 }.setStackPair q (joinBytes (Memory.get mem sp.toNat) lo) } := by
  have ran := pop_M3 q (s := (stacking s n sp mem log (some { c with k := 2 }) 1).ticked) rfl holds
  have peek : (stacking s n sp mem log (some { c with k := 2 }) 1).ticked.peek sp = Memory.get mem sp.toNat :=
    ram.peek_eq rfl rfl
  rw [stacking_ticked_sp, peek, ← exec_ofPop] at ran
  exact ⟨_, step_stacking quiet routine (ofPop_ne_prefixCB q) ran⟩

end

/-! ### The two instructions -/

section
variable {s : State} {q : StackPair}

/-- R236: PUSH, where the stack is memory. -/
theorem Resting.steps_push (h : Resting s) (device : s.handler s.pc ≠ some .device)
    (byte : decodeBase (s.peek s.pc) = .ofPush q) (high : s.InRam (s.sp - 1)) (low : s.InRam (s.sp - 2)) :
    ∃ log, steps 4 s = .next (stacking { s with pc := s.pc + 1 } 4 (s.sp - 2)
      (pushed s.mem s.sp (s.regs.stackPair q)) log none 0) := by
  obtain ⟨-, cycles, -⟩ := ofPush_hasEntry q
  have m1 (u : State) (m : u.standsAt 0) : exec (.ofPush q) u = .next u := by
    rw [exec_ofPush]; exact (push_next_iff q).2 (.inl ⟨m, rfl⟩)
  obtain ⟨log, c, routine, fetch⟩ := h.step_fetch device byte (ofPush_ne_prefixCB q) m1 (by omega)
  have two : s.sp - 1 - 1 = s.sp - 2 := by bv_omega
  have m2 := step_push_M2 (s := { s with pc := s.pc + 1 }) (n := 1) (sp := s.sp) (mem := s.mem) (log := log)
    h.inputs routine
  obtain ⟨log₃, m3⟩ := step_push_M3 (s := { s with pc := s.pc + 1 }) (n := 2) (mem := s.mem) (log := log)
    h.inputs routine ⟨high.notIf, high.notIe, high.ram⟩
  rw [two] at m3
  obtain ⟨log₄, m4⟩ := step_push_M4 (s := { s with pc := s.pc + 1 }) (n := 3) (log := log₃)
    (mem := Memory.set s.mem (s.sp - 1).toNat (highByte (s.regs.stackPair q))) h.inputs routine
    ⟨low.notIf, low.notIe, low.ram⟩
  rw [cycles] at fetch
  refine ⟨log₄, ?_⟩
  rw [steps_of_step fetch, steps_of_step m2, steps_of_step m3, steps_one]
  exact m4

/-- R237: POP, where the stack is memory. -/
theorem Resting.steps_pop (h : Resting s) (device : s.handler s.pc ≠ some .device)
    (byte : decodeBase (s.peek s.pc) = .ofPop q) (low : s.InRam s.sp) (high : s.InRam (s.sp + 1)) :
    ∃ log, steps 3 s = .next
      { stacking { s with pc := s.pc + 1 } 3 (s.sp + 2) s.mem log none 0 with
        regs := { s.regs with sp := s.sp + 2 }.setStackPair q
          (joinBytes (Memory.get s.mem (s.sp + 1).toNat) (Memory.get s.mem s.sp.toNat)) } := by
  obtain ⟨-, cycles, -⟩ := ofPop_hasEntry q
  have m1 (u : State) (m : u.standsAt 0) : exec (.ofPop q) u = .next u := by
    rw [exec_ofPop]; exact (pop_next_iff q).2 (.inl ⟨m, rfl⟩)
  obtain ⟨log, c, routine, fetch⟩ := h.step_fetch device byte (ofPop_ne_prefixCB q) m1 (by omega)
  have two : s.sp + 1 + 1 = s.sp + 2 := by bv_omega
  obtain ⟨log₂, m2⟩ := step_pop_M2 (s := { s with pc := s.pc + 1 }) (n := 1) (mem := s.mem) (log := log)
    h.inputs routine ⟨low.notIf, low.notIe, low.ram⟩
  obtain ⟨log₃, m3⟩ := step_pop_M3 (s := { s with pc := s.pc + 1 }) (n := 2) (mem := s.mem) (log := log₂) h.inputs
    (c := { c with lo := some (Memory.get s.mem s.sp.toNat) }) routine ⟨high.notIf, high.notIe, high.ram⟩ rfl
  rw [two] at m3
  rw [cycles] at fetch
  refine ⟨log₃, ?_⟩
  rw [steps_of_step fetch, steps_of_step m2, steps_one]
  exact m3

end

theorem Flags.ofByte_toByte (f : Flags) : Flags.ofByte f.toByte = f := by
  have all : ∀ z n h c : Bool, Flags.ofByte (Flags.toByte ⟨z, n, h, c⟩) = ⟨z, n, h, c⟩ := by decide
  exact all f.z f.n f.h f.c

/-- R35: a pair written with its own value, F's low nibble being 0. -/
theorem RegFile.setStackPair_stackPair (f : RegFile) (q : StackPair) : f.setStackPair q (f.stackPair q) = f := by
  cases q <;> simp [RegFile.setStackPair, RegFile.stackPair, Flags.ofByte_toByte]

/-- What PUSH leaves at every other address reads as before, devices apart. -/
theorem stacking_peek {s : State} {b : Word} (device : s.handler b ≠ some .device) (v : Word) (high : b ≠ s.sp - 1)
    (low : b ≠ s.sp - 2) (log : List BusEvent) :
    (stacking { s with pc := s.pc + 1 } 4 (s.sp - 2) (pushed s.mem s.sp v) log none 0).peek b = s.peek b := by
  exact State.peek_eq_of_content rfl (congrArg
    (fun v => if b = ifAddr then s.ifRead else if b = ieAddr then s.ieRead else v) (pushed_get_other s.mem high low))
    device

end Sys2Proof.Machine

namespace Sys2Proof

open Sys2Proof.Machine

/-- Settles O57: PUSH's four steps, then POP's three on the bytes they left. -/
theorem pushThenPopRestoresThePair : Obligations.PushThenPopRestoresThePair := by
  unfold Obligations.PushThenPopRestoresThePair
  intro q s inv quiet left halted stopped ime delay haltBug stack device device' push pop
  obtain ⟨notIf, notIe, high_ne, ram⟩ := stack (s.sp - 1) (by simp)
  have high : s.InRam (s.sp - 1) := ⟨notIf, notIe, ram⟩
  obtain ⟨notIf, notIe, low_ne, ram⟩ := stack (s.sp - 2) (by simp)
  have low : s.InRam (s.sp - 2) := ⟨notIf, notIe, ram⟩
  obtain ⟨log, pushes⟩ := Resting.steps_push ⟨quiet, left, halted, stopped, ime, delay, haltBug⟩ device push high low
  have up : s.sp - 2 + 1 = s.sp - 1 := by bv_omega
  have top : s.sp - 2 + 2 = s.sp := by bv_omega
  have high_byte := pushed_get_high inv.memoryCanonical s.sp (s.regs.stackPair q)
  have low_byte := pushed_get_low inv.memoryCanonical s.sp (s.regs.stackPair q)
  obtain ⟨log', pops⟩ := Resting.steps_pop
    (s := stacking { s with pc := s.pc + 1 } 4 (s.sp - 2) (pushed s.mem s.sp (s.regs.stackPair q)) log none 0) (q := q)
    ⟨quiet, rfl, halted, stopped, ime, delay, haltBug⟩ device'
    ((congrArg decodeBase (stacking_peek device' _ high_ne.symm low_ne.symm log)).trans pop)
    ⟨low.notIf, low.notIe, low.ram⟩ (up ▸ ⟨high.notIf, high.notIe, high.ram⟩)
  refine ⟨_, (run_eq_steps 7 s).trans ((steps_add pushes 3).trans pops), ?_, ?_, rfl⟩
  · show { s.regs with sp := s.sp - 2 + 2 }.setStackPair q (joinBytes
      (Memory.get (pushed s.mem s.sp (s.regs.stackPair q)) (s.sp - 2 + 1).toNat)
      (Memory.get (pushed s.mem s.sp (s.regs.stackPair q)) (s.sp - 2).toNat)) = s.regs
    rw [top, up, high_byte, low_byte, joinBytes_halves]
    exact s.regs.setStackPair_stackPair q
  · show s.pc + 1 + 1 = s.pc + 2
    bv_omega

end Sys2Proof

/-! The diagnostic log is write-only (R48): no segment reads it, so a state with another log steps alike. -/

namespace Sys2Proof.Machine

/-- The same state with another log. -/
def State.withLog (s : State) (log : List (Byte × Word)) : State := { s with diagLog := log }

section
variable (s : State) (log : List (Byte × Word))

/-! ### What is read of a state does not depend on the log -/

@[simp] theorem State.withLog_regs : (s.withLog log).regs = s.regs := rfl
@[simp] theorem State.withLog_pc : (s.withLog log).pc = s.pc := rfl
@[simp] theorem State.withLog_sp : (s.withLog log).sp = s.sp := rfl
@[simp] theorem State.withLog_hl : (s.withLog log).hl = s.hl := rfl
@[simp] theorem State.withLog_peek (a : Word) : (s.withLog log).peek a = s.peek a := rfl

/-! ### What is done to a state commutes with the change of the log -/

@[simp] theorem State.withLog_noteRead (a : Word) : (s.withLog log).noteRead a = (s.noteRead a).withLog log := rfl
@[simp] theorem State.withLog_setPc (v : Word) : (s.withLog log).setPc v = (s.setPc v).withLog log := rfl
@[simp] theorem State.withLog_setSp (v : Word) : (s.withLog log).setSp v = (s.setSp v).withLog log := rfl
@[simp] theorem State.withLog_setFlags (f : Flags) : (s.withLog log).setFlags f = (s.setFlags f).withLog log := rfl
@[simp] theorem State.withLog_memWrite (a : Word) (v : Byte) :
    (s.withLog log).memWrite a v = (s.memWrite a v).withLog log := by
  have handler : (s.withLog log).handler a = s.handler a := rfl
  rw [State.memWrite, State.memWrite, State.store, State.store, handler]
  split
  · rfl
  split
  · rfl
  split <;> rfl
@[simp] theorem State.withLog_branchIf (cc : Cond) (n : Nat) :
    (s.withLog log).branchIf cc n = (s.branchIf cc n).withLog log := by
  rw [State.branchIf_eq, State.branchIf_eq]; rfl
@[simp] theorem State.withLog_halt : (s.withLog log).halt = s.halt.withLog log := by
  have ime : (s.withLog log).ime = s.ime := rfl
  have pending : (s.withLog log).pending = s.pending := rfl
  rw [State.halt, State.halt, ime, pending]
  split
  · rfl
  split <;> rfl

end

/-! ### Segments that neither read nor write the log -/

/-- With another log the segment answers the same, with that log. -/
def Seg.IgnoresLog (seg : Seg) : Prop :=
  ∀ (s t : State) (log : List (Byte × Word)), seg s = .next t → seg (s.withLog log) = .next (t.withLog log)

/-- The function of a state commutes with a change of the log. -/
def LeavesLog (f : State → State) : Prop :=
  ∀ (s : State) (log : List (Byte × Word)), f (s.withLog log) = (f s).withLog log

/-- The value read of a state does not depend on the log. -/
def ReadsNoLog {α : Type} (v : State → α) : Prop := ∀ (s : State) (log : List (Byte × Word)), v (s.withLog log) = v s

theorem idle_ignoresLog : Seg.IgnoresLog idle := fun _ _ _ h => Host.Outcome.next.inj h ▸ rfl

theorem act_ignoresLog {f : State → State} (hf : LeavesLog f) : Seg.IgnoresLog (act f) := by
  rintro s _ log ⟨rfl⟩
  rw [act_eq, hf]

theorem readInto_ignoresLog {addr : State → Word} {f : Byte → State → State} (ha : ReadsNoLog addr)
    (hf : ∀ v, LeavesLog (f v)) : Seg.IgnoresLog (readInto addr f) := by
  rintro s _ log ⟨rfl⟩
  rw [readInto_eq, ha, State.withLog_peek, State.withLog_noteRead, hf]

theorem fetchInto_ignoresLog {f : Byte → State → State} (hf : ∀ v, LeavesLog (f v)) : Seg.IgnoresLog (fetchInto f) := by
  rintro s _ log ⟨rfl⟩
  rw [fetchInto_eq, State.withLog_pc, State.withLog_peek, State.withLog_noteRead, State.withLog_setPc, hf]

theorem writeThen_ignoresLog {addr : State → Word} {v : State → Byte} {f : State → State} (ha : ReadsNoLog addr)
    (hv : ReadsNoLog v) (hf : LeavesLog f) : Seg.IgnoresLog (writeThen addr v f) := by
  rintro s _ log ⟨rfl⟩
  rw [writeThen_eq, ha, hv, State.withLog_memWrite, hf]

theorem withTmp_ignoresLog {f : Byte → Seg} (hf : ∀ v, (f v).IgnoresLog) : Seg.IgnoresLog (withTmp f) := by
  intro s t log h
  obtain ⟨v, holds, rest⟩ := withTmp_next_iff.1 h
  exact withTmp_next_iff.2 ⟨v, holds, hf v s t log rest⟩

theorem withLo_ignoresLog {f : Byte → Seg} (hf : ∀ v, (f v).IgnoresLog) : Seg.IgnoresLog (withLo f) := by
  intro s t log h
  obtain ⟨v, holds, rest⟩ := withLo_next_iff.1 h
  exact withLo_next_iff.2 ⟨v, holds, hf v s t log rest⟩

theorem withAddr_ignoresLog {f : Word → Seg} (hf : ∀ a, (f a).IgnoresLog) : Seg.IgnoresLog (withAddr f) := by
  intro s t log h
  obtain ⟨hi, holds_hi, lo, holds_lo, rest⟩ := withAddr_next_iff.1 h
  exact withAddr_next_iff.2 ⟨hi, holds_hi, lo, holds_lo, hf _ s t log rest⟩

theorem branchIf_leavesLog {f : State → State} (hf : LeavesLog f) (cc : Cond) (n : Nat) :
    LeavesLog fun s => (f s).branchIf cc n := fun s log => by
  change (f (s.withLog log)).branchIf cc n = _
  rw [hf, State.withLog_branchIf]

/-! ### The segments that several families share -/

theorem fetchLo_ignoresLog : fetchLo.IgnoresLog := fetchInto_ignoresLog fun _ _ _ => rfl
theorem fetchHi_ignoresLog : fetchHi.IgnoresLog := fetchInto_ignoresLog fun _ _ _ => rfl
theorem fetchTmp_ignoresLog : fetchTmp.IgnoresLog := fetchInto_ignoresLog fun _ _ _ => rfl
theorem readHlTmp_ignoresLog : readHlTmp.IgnoresLog := readInto_ignoresLog (fun _ _ => rfl) fun _ _ _ => rfl
theorem popLo_ignoresLog : popLo.IgnoresLog := readInto_ignoresLog (fun _ _ => rfl) fun _ _ _ => rfl
theorem popHi_ignoresLog : popHi.IgnoresLog := readInto_ignoresLog (fun _ _ => rfl) fun _ _ _ => rfl
theorem decSp_ignoresLog : decSp.IgnoresLog := act_ignoresLog fun _ _ => rfl
theorem jumpAddr_ignoresLog : jumpAddr.IgnoresLog := withAddr_ignoresLog fun _ => act_ignoresLog fun _ _ => rfl
theorem jumpRel_ignoresLog : jumpRel.IgnoresLog := withTmp_ignoresLog fun _ => act_ignoresLog fun _ _ => rfl

theorem pushHigh_ignoresLog {v : State → Word} (hv : ReadsNoLog v) : (pushHigh v).IgnoresLog :=
  writeThen_ignoresLog (fun _ _ => rfl) (fun s log => congrArg highByte (hv s log)) fun _ _ => rfl

theorem pushLow_ignoresLog {v : State → Word} {f : State → State} (hv : ReadsNoLog v) (hf : LeavesLog f) :
    (pushLow v f).IgnoresLog :=
  writeThen_ignoresLog (fun _ _ => rfl) (fun s log => congrArg lowByte (hv s log)) hf

theorem callJump_ignoresLog : callJump.IgnoresLog :=
  withAddr_ignoresLog fun _ => pushLow_ignoresLog (fun _ _ => rfl) fun _ _ => rfl

theorem modifyHl_ignoresLog (f : Byte → Flags → Byte × Flags) : (modifyHl f).IgnoresLog :=
  withTmp_ignoresLog fun v => by
    rintro s _ log ⟨rfl⟩
    simp

theorem perform_ignoresLog {schedule : List Seg} (h : schedule.Forall Seg.IgnoresLog) :
    Seg.IgnoresLog (perform schedule) := by
  intro s t log ran
  obtain ⟨k, seg, stands, at_k, segment⟩ := perform_cases ran
  exact (perform_of (s := s.withLog log) stands at_k).trans
    (List.forall_iff_forall_mem.1 h seg (List.mem_of_getElem? at_k) s t log segment)

/-! ### The schedules -/

/-- But for the unimplemented opcodes no family reads or writes the log. The families stand in groups of one shape. -/
theorem Form.run_ignoresLog {f : Form} (undef : ∀ w, f ≠ .undef w) : (Form.run f).IgnoresLog := by
  cases f with
  | undef w => exact absurd rfl (undef w)
  | nop => exact perform_ignoresLog idle_ignoresLog
  | halt => exact perform_ignoresLog (act_ignoresLog fun s log => s.withLog_halt log)
  | stop | di | ei | ldRegReg | aluReg | incReg | decReg | daa | cpl | scf | ccf | jpHl | rlca | rrca | rla | rra =>
    exact perform_ignoresLog (act_ignoresLog fun _ _ => rfl)
  | ldSpHl | addHl | incPair | decPair | rotReg | bitReg | resReg | setReg =>
    exact perform_ignoresLog ⟨idle_ignoresLog, act_ignoresLog fun _ _ => rfl⟩
  | prefixCB | ldRegImm | aluImm =>
    exact perform_ignoresLog ⟨idle_ignoresLog, fetchInto_ignoresLog fun _ _ _ => rfl⟩
  | ldRegHl | ldAInd | ldAHlInc | ldAHlDec | ldAC | aluHl =>
    exact perform_ignoresLog ⟨idle_ignoresLog, readInto_ignoresLog (fun _ _ => rfl) fun _ _ _ => rfl⟩
  | ldHlReg | ldIndA | ldHlIncA | ldHlDecA | ldCA =>
    exact perform_ignoresLog
      ⟨idle_ignoresLog, writeThen_ignoresLog (fun _ _ => rfl) (fun _ _ => rfl) fun _ _ => rfl⟩
  | ldHlImm | ldhImmA =>
    exact perform_ignoresLog ⟨idle_ignoresLog, fetchTmp_ignoresLog,
      withTmp_ignoresLog fun _ => writeThen_ignoresLog (fun _ _ => rfl) (fun _ _ => rfl) fun _ _ => rfl⟩
  | ldhAImm =>
    exact perform_ignoresLog ⟨idle_ignoresLog, fetchTmp_ignoresLog,
      withTmp_ignoresLog fun _ => readInto_ignoresLog (fun _ _ => rfl) fun _ _ _ => rfl⟩
  | ldHlSp =>
    exact perform_ignoresLog ⟨idle_ignoresLog, fetchTmp_ignoresLog,
      withTmp_ignoresLog fun _ => act_ignoresLog fun _ _ => rfl⟩
  | addSp =>
    exact perform_ignoresLog ⟨idle_ignoresLog, fetchTmp_ignoresLog, idle_ignoresLog,
      withTmp_ignoresLog fun _ => act_ignoresLog fun _ _ => rfl⟩
  | jr => exact perform_ignoresLog ⟨idle_ignoresLog, fetchTmp_ignoresLog, jumpRel_ignoresLog⟩
  | jrCc cc =>
    exact perform_ignoresLog ⟨idle_ignoresLog, fetchInto_ignoresLog fun _ => branchIf_leavesLog (fun _ _ => rfl) cc 1,
      jumpRel_ignoresLog⟩
  | incHl | decHl => exact perform_ignoresLog ⟨idle_ignoresLog, readHlTmp_ignoresLog, modifyHl_ignoresLog _⟩
  | rotHl =>
    exact perform_ignoresLog ⟨idle_ignoresLog, idle_ignoresLog, readHlTmp_ignoresLog, modifyHl_ignoresLog _⟩
  | bitHl =>
    exact perform_ignoresLog
      ⟨idle_ignoresLog, idle_ignoresLog, readInto_ignoresLog (fun _ _ => rfl) fun _ _ _ => rfl⟩
  | resHl | setHl =>
    exact perform_ignoresLog ⟨idle_ignoresLog, idle_ignoresLog, readHlTmp_ignoresLog,
      withTmp_ignoresLog fun _ => writeThen_ignoresLog (fun _ _ => rfl) (fun _ _ => rfl) fun _ _ => rfl⟩
  | ldPairImm =>
    exact perform_ignoresLog ⟨idle_ignoresLog, fetchLo_ignoresLog,
      withLo_ignoresLog fun _ => fetchInto_ignoresLog fun _ _ _ => rfl⟩
  | pop =>
    exact perform_ignoresLog ⟨idle_ignoresLog, popLo_ignoresLog,
      withLo_ignoresLog fun _ => readInto_ignoresLog (fun _ _ => rfl) fun _ _ _ => rfl⟩
  | push | rst =>
    exact perform_ignoresLog ⟨idle_ignoresLog, decSp_ignoresLog, pushHigh_ignoresLog fun _ _ => rfl,
      pushLow_ignoresLog (fun _ _ => rfl) fun _ _ => rfl⟩
  | ldAAbs =>
    exact perform_ignoresLog ⟨idle_ignoresLog, fetchLo_ignoresLog, fetchHi_ignoresLog,
      withAddr_ignoresLog fun _ => readInto_ignoresLog (fun _ _ => rfl) fun _ _ _ => rfl⟩
  | ldAbsA =>
    exact perform_ignoresLog ⟨idle_ignoresLog, fetchLo_ignoresLog, fetchHi_ignoresLog,
      withAddr_ignoresLog fun _ => writeThen_ignoresLog (fun _ _ => rfl) (fun _ _ => rfl) fun _ _ => rfl⟩
  | ldAbsSp =>
    exact perform_ignoresLog ⟨idle_ignoresLog, fetchLo_ignoresLog, fetchHi_ignoresLog,
      withAddr_ignoresLog fun _ => writeThen_ignoresLog (fun _ _ => rfl) (fun _ _ => rfl) fun _ _ => rfl,
      withAddr_ignoresLog fun _ => writeThen_ignoresLog (fun _ _ => rfl) (fun _ _ => rfl) fun _ _ => rfl⟩
  | jp => exact perform_ignoresLog ⟨idle_ignoresLog, fetchLo_ignoresLog, fetchHi_ignoresLog, jumpAddr_ignoresLog⟩
  | jpCc cc =>
    exact perform_ignoresLog ⟨idle_ignoresLog, fetchLo_ignoresLog,
      fetchInto_ignoresLog fun _ => branchIf_leavesLog (fun _ _ => rfl) cc 1, jumpAddr_ignoresLog⟩
  | ret => exact perform_ignoresLog ⟨idle_ignoresLog, popLo_ignoresLog, popHi_ignoresLog, jumpAddr_ignoresLog⟩
  | reti =>
    exact perform_ignoresLog ⟨idle_ignoresLog, popLo_ignoresLog, popHi_ignoresLog,
      withAddr_ignoresLog fun _ => act_ignoresLog fun _ _ => rfl⟩
  | retCc cc =>
    exact perform_ignoresLog ⟨idle_ignoresLog, act_ignoresLog (branchIf_leavesLog (fun _ _ => rfl) cc 3),
      popLo_ignoresLog, popHi_ignoresLog, jumpAddr_ignoresLog⟩
  | call =>
    exact perform_ignoresLog ⟨idle_ignoresLog, fetchLo_ignoresLog, fetchHi_ignoresLog, decSp_ignoresLog,
      pushHigh_ignoresLog fun _ _ => rfl, callJump_ignoresLog⟩
  | callCc cc =>
    exact perform_ignoresLog ⟨idle_ignoresLog, fetchLo_ignoresLog,
      fetchInto_ignoresLog fun _ => branchIf_leavesLog (fun _ _ => rfl) cc 3, decSp_ignoresLog,
      pushHigh_ignoresLog fun _ _ => rfl, callJump_ignoresLog⟩

/-! ### The routines -/

theorem State.withLog_isrPushHigh (s : State) (log : List (Byte × Word)) :
    (s.withLog log).isrPushHigh = s.isrPushHigh.withLog log := by
  by_cases sp : s.sp = 0
  · rw [State.isrPushHigh_of_sp_zero sp, State.isrPushHigh_of_sp_zero (s := s.withLog log) sp]
    simp only [State.withLog_setSp, State.withLog_sp, State.withLog_pc, State.withLog_memWrite]
    rfl
  · rw [State.isrPushHigh_of_sp_ne sp, State.isrPushHigh_of_sp_ne (s := s.withLog log) sp]
    simp

theorem State.withLog_isrPushLow (s : State) (log : List (Byte × Word)) :
    (s.withLog log).isrPushLow = s.isrPushLow.withLog log := by
  simp [State.isrPushLow]

theorem State.withLog_isrJump (s : State) (log : List (Byte × Word)) :
    (s.withLog log).isrJump = s.isrJump.withLog log := by
  have vector : (s.withLog log).pendingVector = s.pendingVector := rfl
  rw [State.isrJump, State.isrJump, vector]
  split <;> rfl

theorem acceptInterrupt_ignoresLog : acceptInterrupt.IgnoresLog :=
  perform_ignoresLog ⟨act_ignoresLog fun _ _ => rfl, idle_ignoresLog, act_ignoresLog State.withLog_isrPushHigh,
    act_ignoresLog State.withLog_isrPushLow, act_ignoresLog State.withLog_isrJump⟩

/-- The same step but for the log, which the unimplemented opcodes write. -/
def Seg.LogBlind (seg : Seg) : Prop :=
  ∀ (s t : State) (log : List (Byte × Word)), seg s = .next t → ∃ log', seg (s.withLog log) = .next (t.withLog log')

theorem Seg.IgnoresLog.logBlind {seg : Seg} (h : seg.IgnoresLog) : seg.LogBlind := fun s t log ran =>
  ⟨log, h s t log ran⟩

theorem exec_logBlind (i : Instr) : Seg.LogBlind (exec i) := by
  intro s t log h
  rw [exec_eq_run] at h ⊢
  by_cases undef : ∃ w, i.form = .undef w
  · obtain ⟨w, form⟩ := undef
    rw [form] at h ⊢
    obtain ⟨m1, op, hop, a, ha, rfl⟩ := undef_next_iff.1 h
    exact ⟨_, undef_next_iff.2 ⟨m1, op, hop, a, ha, rfl⟩⟩
  · exact (Form.run_ignoresLog fun w e => undef ⟨w, e⟩).logBlind s t log h

theorem runInstr_logBlind (i : Instr) : Seg.LogBlind (runInstr i) := by
  intro s t log h
  obtain ⟨u, first, rest⟩ := andThen_next_iff.1 h
  obtain ⟨log', first'⟩ := exec_logBlind i s u log first
  have chosen : cbDispatched i (u.withLog log') = cbDispatched i u := rfl
  suffices rest' : ∃ log'', (match cbDispatched i (u.withLog log') with
      | some j => exec j (u.withLog log')
      | none => .next (u.withLog log')) = .next (t.withLog log'') by
    obtain ⟨log'', rest'⟩ := rest'
    exact ⟨log'', andThen_next_iff.2 ⟨_, first', rest'⟩⟩
  rw [chosen]
  cases next : cbDispatched i u with
  | none => exact ⟨log', by rw [next] at rest; obtain rfl := Host.Outcome.next.inj rest; rfl⟩
  | some j => exact exec_logBlind j u t log' (by rw [next] at rest; exact rest)

theorem State.withLog_finish (s : State) (log : List (Byte × Word)) :
    (s.withLog log).finish = s.finish.withLog log := by
  by_cases left : s.cyclesLeft = 0
  · rw [State.finish_of_done left, State.finish_of_done (s := s.withLog log) left]; rfl
  · rw [State.finish_of_left left, State.finish_of_left (s := s.withLog log) left]; rfl

theorem runSegment_logBlind : Seg.LogBlind runSegment := by
  intro s t log h
  obtain ⟨c, cont, u, ran, rfl⟩ := runSegment_next_iff.1 h
  have routine : ∃ log', runRoutine c.routine (s.counted.withLog log) = .next (u.withLog log') := by
    cases hr : c.routine with
    | isr => exact acceptInterrupt_ignoresLog.logBlind s.counted u log (by rw [hr] at ran; exact ran)
    | instr i => exact runInstr_logBlind i s.counted u log (by rw [hr] at ran; exact ran)
  obtain ⟨log', ran'⟩ := routine
  exact ⟨log', runSegment_next_iff.2 ⟨c, cont, _, ran', State.withLog_finish u log'⟩⟩

/-! ### The step -/

theorem State.withLog_passOpcode (s : State) (log : List (Byte × Word)) :
    (s.withLog log).passOpcode = s.passOpcode.withLog log := by
  have bug : (s.withLog log).haltBug = s.haltBug := rfl
  rw [State.passOpcode, State.passOpcode, bug]
  split <;> rfl

theorem State.withLog_takeDelay (s : State) (log : List (Byte × Word)) :
    (s.withLog log).takeDelay = s.takeDelay.withLog log := by
  have delay : (s.withLog log).delay = s.delay := rfl
  rw [State.takeDelay, State.takeDelay, delay]
  split <;> rfl

theorem State.withLog_start (s : State) (log : List (Byte × Word)) : (s.withLog log).start = s.start.withLog log := by
  have accepts : (s.withLog log).accepts = s.accepts := rfl
  rw [State.start, State.start, accepts]
  split
  · rfl
  · rw [State.fetch, State.fetch, State.withLog_noteRead, State.withLog_pc, State.withLog_passOpcode,
      State.withLog_takeDelay]
    rfl

/-- The boundary's state with another log. -/
def Boundary.withLog (b : Boundary) (log : List (Byte × Word)) : Boundary :=
  match b with
  | .idle s => .idle (s.withLog log)
  | .go s => .go (s.withLog log)

theorem State.withLog_checkHalted (s : State) (log : List (Byte × Word)) :
    (s.withLog log).checkHalted = s.checkHalted.withLog log := by
  have halted : (s.withLog log).halted = s.halted := rfl
  have pending : (s.withLog log).pending = s.pending := rfl
  rw [State.checkHalted, State.checkHalted, halted, pending]
  split
  · split
    · exact congrArg Boundary.go (State.withLog_start { s with halted := false } log)
    · rfl
  · exact congrArg Boundary.go (State.withLog_start s log)

theorem State.withLog_boundary (s : State) (log : List (Byte × Word)) :
    (s.withLog log).boundary = s.boundary.withLog log := by
  have stopped : (s.withLog log).stopped = s.stopped := rfl
  have wakes : (s.withLog log).stopWakes = s.stopWakes := rfl
  rw [State.boundary, State.boundary, stopped, wakes]
  split
  · split
    · exact State.withLog_checkHalted { s with stopped := false } log
    · rfl
  · exact State.withLog_checkHalted s log

/-- A reset clears the log, and nothing else of the sample depends on it. -/
theorem State.withLog_sample (s : State) (log : List (Byte × Word)) :
    ∃ log', (s.withLog log).sample = s.sample.withLog log' := by
  cases reset : s.input.reset with
  | true => exact ⟨[], by rw [State.sample_of_reset reset, State.sample_of_reset (s := s.withLog log) reset]; rfl⟩
  | false => exact ⟨log, by rw [State.sample_of_noReset reset, State.sample_of_noReset (s := s.withLog log) reset]; rfl⟩

end Sys2Proof.Machine

namespace Sys2Proof

open Sys2Proof.Machine

/-- Settles O56: the sample, the boundary and the segment each leave the rest of the state as without the log. -/
theorem diagnosticsAreNeverRead : Obligations.DiagnosticsAreNeverRead := by
  unfold Obligations.DiagnosticsAreNeverRead
  intro s t log h
  obtain ⟨log', sample⟩ := s.withLog_sample log
  change ∃ log', step (s.withLog log) = .next (t.withLog log')
  by_cases left : s.sample.cyclesLeft = 0
  · have left' : (s.withLog log).sample.cyclesLeft = 0 := by rw [sample]; exact left
    rw [step_boundary left] at h
    rw [step_boundary left', sample, State.withLog_boundary]
    cases boundary : s.sample.boundary with
    | idle u =>
      rw [boundary] at h
      exact ⟨log', by rw [← Host.Outcome.next.inj h]; rfl⟩
    | go u =>
      rw [boundary] at h
      exact runSegment_logBlind u t log' h
  · have left' : (s.withLog log).sample.cyclesLeft ≠ 0 := by rw [sample]; exact left
    rw [stepCycle_segment left] at h
    rw [stepCycle_segment left', sample]
    exact runSegment_logBlind _ t log' h

end Sys2Proof

/-! How many steps an instruction takes (R112, R153): the steps that remain, from any state under the invariant, and
that each step is one less. -/

namespace Sys2Proof.Machine

/-! ### The steps that remain -/

/-- What the condition of a family will still add, from the segment `k` on. -/
def extraToCome (f : Form) (k : Nat) (flags : Flags) : Nat :=
  match branchOf f with
  | some (cc, b, n) => if k ≤ b ∧ flags.cond cc = true then n else 0
  | none => 0

/-- What the routine in flight will still add to its cycles. -/
def Continuation.extra (c : Continuation) (flags : Flags) : Nat :=
  match c.routine with
  | .isr => 0
  | .instr i => extraToCome i.form c.k flags

/-- The steps to the next boundary, where no PREFIX CB is in flight. -/
def State.remaining (s : State) : Nat := s.cyclesLeft + s.cont.elim 0 (·.extra s.regs.flags)

theorem conditionOf_eq_branchOf (f : Form) : conditionOf f = (branchOf f).map (·.1) := by cases f <;> rfl

/-- R112: the count of an instruction is its declared count and what its condition adds. -/
theorem stepCount_eq (i : Instr) (flags : Flags) : stepCount i flags = i.cycles + extraToCome i.form 0 flags := by
  obtain ⟨taken, untaken⟩ := counts i
  unfold stepCount extraToCome
  rw [conditionOf_eq_branchOf]
  cases branch : branchOf i.form with
  | none => rfl
  | some b =>
    obtain ⟨cc, k, n⟩ := b
    have extra : branchExtra i.form = n := by rw [branchExtra, branch]
    cases met : flags.cond cc <;> simp [met]
    omega

/-- What a conditional instruction still has to add is what its segment adds, and what comes after. -/
theorem extraToCome_eq {f : Form} {s : State} {k : Nat} (stands : s.standsAt k) :
    extraToCome f k s.regs.flags = extraCycles f s + extraToCome f (k + 1) s.regs.flags := by
  unfold extraToCome extraCycles
  cases branch : branchOf f with
  | none => rfl
  | some b =>
    obtain ⟨cc, j, n⟩ := b
    have here : s.standsAt j ↔ k = j := ⟨State.standsAt_inj stands, fun e => e ▸ stands⟩
    have cond : s.regs.flags.cond cc = s.cond cc := rfl
    simp only [here, cond]
    cases s.cond cc <;> simp
    split <;> split <;> split <;> omega

theorem Flags.eq_of_keeps {f g : Flags} (h : Flags.Keeps ⟨false, false, false, false⟩ f g) : g = f := by
  obtain ⟨z, n, h, c⟩ := h
  cases f; cases g
  exact (Flags.mk.injEq ..).mpr ⟨z rfl, n rfl, h rfl, c rfl⟩

/-- A conditional instruction leaves the flags. -/
theorem exec_flags_of_branchOf {i : Instr} {s t : State} (h : exec i s = .next t) {b : Cond × Nat × Nat}
    (branch : branchOf i.form = some b) : t.regs.flags = s.regs.flags := by
  rw [exec_eq_run] at h
  have kept := Form.run_keeps_flags i.form h
  have none : writesFlags i.form = ⟨false, false, false, false⟩ := by
    generalize i.form = f at branch
    cases f with
    | jrCc | jpCc | callCc | retCc => rfl
    | _ => cases branch
  exact Flags.eq_of_keeps (none ▸ kept)

theorem extraToCome_of_exec {i : Instr} {s t : State} (h : exec i s = .next t) (k : Nat) :
    extraToCome i.form k t.regs.flags = extraToCome i.form k s.regs.flags := by
  unfold extraToCome
  cases branch : branchOf i.form with
  | none => rfl
  | some b => rw [exec_flags_of_branchOf h branch]

/-- At the end of the cycles nothing is to be added any more. -/
theorem Running.extraToCome_of_done {i : Instr} {c : Continuation} {x : State} (h : Running i c x)
    (done : x.cyclesLeft + extraCycles i.form x = 0) (flags : Flags) : extraToCome i.form (c.k + 1) flags = 0 := by
  unfold extraToCome
  cases branch : branchOf i.form with
  | none => rfl
  | some b =>
    obtain ⟨cc, k, n⟩ := b
    obtain ⟨taken, untaken⟩ := counts i
    have total := segmentCount_of_branchOf branch
    have extra : branchExtra i.form = n := by rw [branchExtra, branch]
    have left := h.left_after
    rw [done] at left
    exact if_neg fun ⟨early, _⟩ => by omega

/-- The steps that remain after a segment of an instruction in flight. -/
theorem Running.remaining_finish {i : Instr} {c : Continuation} {x t : State} (h : Running i c x)
    (whole : i ≠ .prefixCB) (ran : exec i x = .next t) :
    t.finish.remaining = x.cyclesLeft + extraToCome i.form c.k x.regs.flags := by
  obtain ⟨stand, left⟩ := h.after (fun e => absurd e whole) ran
  obtain ⟨d, cont, routine, k, -⟩ := State.cont_of_stand stand h.cont
  rw [extraToCome_eq (by simp [h.cont]), ← extraToCome_of_exec ran (c.k + 1), ← Nat.add_assoc, ← left, State.remaining,
    State.finish_cyclesLeft, State.finish_regs]
  by_cases done : t.cyclesLeft = 0
  · rw [h.extraToCome_of_done (left ▸ done), State.finish_of_done done]
    rfl
  · rw [State.finish_of_left done, State.onCont_cont, cont]
    simp only [Option.map_some, Option.elim_some, Continuation.extra, routine, h.routine, k]

/-! ### A step on the way to the boundary -/

/-- On the way to a boundary, with no PREFIX CB and no reset to come. -/
structure Underway (s : State) : Prop where
  inv : Inv s
  noReset : s.noReset
  whole : ∀ c, s.cont = some c → c.routine ≠ .instr .prefixCB

theorem State.noReset.input {s : State} (h : s.noReset) : s.input.reset = false := by
  unfold State.input
  split
  · rfl
  · next i rest inputs => exact h i (by rw [inputs]; simp)

/-- The inputs left after a step hold no reset either. -/
theorem State.noReset.step {s t : State} (h : s.noReset) (ran : step s = .next t) : t.noReset := by
  have inputs : t.inputs = s.inputs.tail := (step_sameSetting ran).inputs
  intro i hi
  exact h i (List.mem_of_mem_tail (inputs ▸ hi))

theorem Running.whole_finish {i : Instr} {c : Continuation} {x t : State} (h : Running i c x) (whole : i ≠ .prefixCB)
    (ran : exec i x = .next t) (d : Continuation) (cont : t.finish.cont = some d) : d.routine ≠ .instr .prefixCB := by
  obtain ⟨e, cont', routine, -⟩ := State.cont_of_stand (h.after (fun e => absurd e whole) ran).1 h.cont
  by_cases left : t.cyclesLeft = 0
  · simp [State.finish_of_done left] at cont
  · rw [State.finish_of_left left, State.onCont_cont, cont'] at cont
    obtain rfl := Option.some.inj cont
    exact fun e => whole (Routine.instr.inj ((routine.trans h.routine).symm.trans e))

/-- The acceptance sequence stays in flight, and adds no cycle. -/
theorem acceptInterrupt_finish {s u : State} {c : Continuation} (cont : s.cont = some c) (routine : c.routine = .isr)
    (ran : acceptInterrupt s = .next u) :
    u.finish.remaining = s.cyclesLeft ∧ ∀ d, u.finish.cont = some d → d.routine ≠ .instr .prefixCB := by
  obtain ⟨cont', left, -⟩ := acceptInterrupt_keeps ran
  rw [State.remaining, State.finish_cyclesLeft, left]
  by_cases done : u.cyclesLeft = 0
  · rw [State.finish_of_done done]
    exact ⟨rfl, fun _ e => nomatch e⟩
  · rw [State.finish_of_left done, State.onCont_cont, cont', cont]
    refine ⟨by simp [Continuation.extra, routine], fun d e => ?_⟩
    obtain rfl := Option.some.inj e
    simp [routine]

/-- Each step on the way to the boundary leaves one step less. -/
theorem Underway.step {s : State} (h : Underway s) (left : s.cyclesLeft ≠ 0) :
    ∃ t, step s = .next t ∧ Underway t ∧ s.remaining = t.remaining + 1 := by
  have sample := State.sample_of_noReset h.noReset.input
  have inv := h.inv.sample
  have left' : s.sample.cyclesLeft ≠ 0 := by rw [sample]; exact left
  obtain ⟨c, cont⟩ := Option.ne_none_iff_exists'.1 (mt h.inv.contExists.1 left)
  have cont' : s.sample.cont = some c := by rw [sample]; exact cont
  have counted : s.sample.counted.cyclesLeft = s.cyclesLeft - 1 := by rw [sample]; rfl
  have remaining : s.remaining = s.cyclesLeft + c.extra s.regs.flags := by rw [State.remaining, cont]; rfl
  cases routine : c.routine with
  | isr =>
    obtain ⟨-, count, -⟩ := inv.isr_legal cont' routine
    obtain ⟨u, ran⟩ := acceptInterrupt_total (s := s.sample.counted) cont' (by omega)
    have stepped : Machine.step s = .next u.finish :=
      (stepCycle_segment left').trans (runSegment_of_accept cont' routine ran)
    obtain ⟨remaining', whole⟩ := acceptInterrupt_finish (s := s.sample.counted) cont' routine ran
    refine ⟨_, stepped, ⟨inv.finish_isr left' cont' routine ran, h.noReset.step stepped, whole⟩, ?_⟩
    rw [remaining', remaining, counted, Continuation.extra, routine]
    simp only
    omega
  | instr i =>
    have whole : i ≠ .prefixCB := fun e => h.whole c cont (e ▸ routine)
    have running := inv.running left' cont' routine
    obtain ⟨u, ran⟩ := running.exec_total
    have stepped : Machine.step s = .next u.finish :=
      (stepCycle_segment left').trans (runSegment_of_exec cont' routine whole ran)
    refine ⟨_, stepped, ⟨running.finish_inv (fun e => absurd e whole) ran, h.noReset.step stepped,
      running.whole_finish whole ran⟩, ?_⟩
    have regs : s.sample.counted.regs = s.regs := by rw [sample]; rfl
    rw [running.remaining_finish whole ran, remaining, counted, regs, Continuation.extra, routine]
    simp only
    omega

/-! ### From the remaining steps to the boundary -/

/-- After `n` steps, and not before, the machine is at a boundary. -/
def ReachesBoundary (n : Nat) (s : State) : Prop :=
  (∃ t, steps n s = .next t ∧ t.cyclesLeft = 0 ∧ t.cont = none) ∧
    ∀ j < n, ∃ u, steps j s = .next u ∧ 0 < u.cyclesLeft

theorem ReachesBoundary.of_done {s : State} (left : s.cyclesLeft = 0) (gone : s.cont = none) : ReachesBoundary 0 s :=
  ⟨⟨s, rfl, left, gone⟩, fun j hj => absurd hj (Nat.not_lt_zero j)⟩

theorem ReachesBoundary.cons {n : Nat} {s t : State} (first : step s = .next t) (left : s.cyclesLeft ≠ 0)
    (h : ReachesBoundary n t) : ReachesBoundary (n + 1) s := by
  obtain ⟨⟨u, run, done⟩, before⟩ := h
  refine ⟨⟨u, (steps_of_step first n).trans run, done⟩, fun j hj => ?_⟩
  cases j with
  | zero => exact ⟨s, rfl, Nat.pos_of_ne_zero left⟩
  | succ j =>
    obtain ⟨v, run, running⟩ := before j (Nat.lt_of_succ_lt_succ hj)
    exact ⟨v, (steps_of_step first j).trans run, running⟩

theorem Underway.reachesBoundary {s : State} (h : Underway s) : ReachesBoundary s.remaining s := by
  generalize count : s.remaining = n
  induction n generalizing s with
  | zero =>
    have left : s.cyclesLeft = 0 := Nat.eq_zero_of_add_eq_zero_right count
    exact .of_done left (h.inv.contExists.2 left)
  | succ n ih =>
    have left : s.cyclesLeft ≠ 0 := fun left => by
      rw [State.remaining, left, h.inv.contExists.2 left] at count
      exact absurd count (by simp)
    obtain ⟨t, first, onward, less⟩ := h.step left
    exact .cons first left (ih onward (by omega))

/-- A run of exactly `n + 1` steps, of which `first` is the first. -/
theorem ReachesBoundary.run_exactly {n : Nat} {s t : State} (first : step s = .next t) (h : ReachesBoundary n t) :
    (∃ u, Host.Core.run Sys2Proof.core (n + 1) s = .next u ∧ u.cyclesLeft = 0 ∧ u.cont = none) ∧
    ∀ j, 0 < j → j < n + 1 → ∃ u, Host.Core.run Sys2Proof.core j s = .next u ∧ 0 < u.cyclesLeft := by
  obtain ⟨⟨u, run, done⟩, before⟩ := h
  refine ⟨⟨u, (run_eq_steps _ s).trans ((steps_of_step first n).trans run), done⟩, fun j hj lt => ?_⟩
  obtain ⟨i, rfl⟩ := Nat.exists_eq_add_one.2 hj
  obtain ⟨v, run, running⟩ := before i (Nat.lt_of_succ_lt_succ lt)
  exact ⟨v, (run_eq_steps _ s).trans ((steps_of_step first i).trans run), running⟩

/-! ### The first step -/

theorem step_of_goesOn {s : State} (h : s.goesOn) : step s = runSegment s.sample.awake.start := by
  obtain ⟨left, wakes, pending⟩ := h
  exact step_of_awake left wakes pending

/-- The first step of an instruction other than PREFIX CB. -/
theorem step_fetches {s : State} (inv : Inv s) (noReset : s.noReset) (h : s.goesOn) (refuses : s.sample.accepts = false)
    (whole : decodeBase (s.sample.peek s.sample.pc) ≠ .prefixCB) :
    ∃ t, step s = .next t ∧ Underway t ∧
      t.remaining + 1 = stepCount (decodeBase (s.sample.peek s.sample.pc)) s.sample.regs.flags := by
  have running := running_fetch inv.sample.port
  obtain ⟨u, ran⟩ := running.exec_total
  have stepped : step s = .next u.finish := by
    rw [step_of_goesOn h, State.start_of_refuses (s := s.sample.awake) refuses]
    exact runSegment_of_exec running.cont rfl whole ran
  refine ⟨_, stepped, ⟨running.finish_inv (fun e => absurd e whole) ran, noReset.step stepped,
    running.whole_finish whole ran⟩, ?_⟩
  have left : s.sample.awake.fetch.counted.cyclesLeft = declaredBase (s.sample.peek s.sample.pc) - 1 := rfl
  have regs : s.sample.awake.fetch.counted.regs = s.sample.regs := s.sample.awake.fetch_regs
  have k : (fetchedCont s.sample).k = 0 := rfl
  have positive : ∀ op : Byte, 0 < declaredBase op := by decide
  have := positive (s.sample.peek s.sample.pc)
  rw [running.remaining_finish whole ran, stepCount_eq, cycles_decodeBase, left, regs, k]
  omega

/-- The first step of a CB instruction is M1 of PREFIX CB. -/
theorem step_fetches_prefix {s : State} (inv : Inv s) (h : s.goesOn) (refuses : s.sample.accepts = false)
    (prefixed : decodeBase (s.sample.peek s.sample.pc) = .prefixCB) :
    ∃ t c, step s = .next t ∧ Inv t ∧ t.cont = some c ∧ c.routine = .instr .prefixCB ∧ c.k = 1 := by
  have running := running_fetch inv.sample.port
  rw [prefixed] at running
  have ran := runInstr_prefixCB_M1 running.cont running.routine rfl
  have first : step s = .next s.sample.awake.fetch.counted.finish := by
    rw [step_of_goesOn h, State.start_of_refuses (s := s.sample.awake) refuses]
    exact runSegment_next_iff.2 ⟨_, running.cont, _, by rw [running.routine]; exact ran, rfl⟩
  have one : s.sample.awake.fetch.counted.cyclesLeft = 1 := by
    have left : s.sample.awake.fetch.counted.cyclesLeft = declaredBase (s.sample.peek s.sample.pc) - 1 := rfl
    rw [left, ← cycles_decodeBase, prefixed]
    rfl
  refine ⟨_, { fetchedCont s.sample with k := 1 }, first, ?_, ?_, ?_, rfl⟩
  · refine running.finish_inv (fun _ => rfl) ?_
    rw [exec_prefixCB]
    exact prefixCB_next_iff.2 (.inl ⟨rfl, rfl⟩)
  · rw [State.finish_of_left (by rw [one]; decide)]
    rfl
  · exact running.routine

theorem branchOf_of_isCb {f : Form} (h : isCb f = true) : branchOf f = none := by
  cases f with
  | jrCc | jpCc | callCc | retCc => cases h
  | _ => rfl

/-- The second step of a CB instruction fetches the CB byte and runs M2 of its routine. -/
theorem step_dispatches {s : State} (inv : Inv s) (noReset : s.noReset) {c : Continuation} (cont : s.cont = some c)
    (routine : c.routine = .instr .prefixCB) (m2 : c.k = 1) :
    ∃ t, step s = .next t ∧ Underway t ∧ t.remaining + 2 = (decodeCb (s.sample.peek s.sample.pc)).cycles := by
  have sample := State.sample_of_noReset noReset.input
  have cont' : s.sample.cont = some c := by rw [sample]; exact cont
  have left : s.sample.cyclesLeft ≠ 0 := fun e => by simp [inv.sample.contExists.2 e] at cont'
  have dispatched := (inv.sample.running left cont' routine).dispatchCb m2 (s.sample.peek s.sample.pc)
  have whole := decodeCb_ne_prefixCB (s.sample.peek s.sample.pc)
  obtain ⟨u, ran⟩ := dispatched.exec_total
  have stepped : step s = .next u.finish := by
    rw [stepCycle_segment left]
    refine runSegment_next_iff.2 ⟨c, cont', u, ?_, rfl⟩
    rw [routine]
    exact (runInstr_prefixCB_M2 (s := s.sample.counted) cont' m2).trans ran
  refine ⟨_, stepped, ⟨dispatched.finish_inv (fun e => absurd e whole) ran, noReset.step stepped,
    dispatched.whole_finish whole ran⟩, ?_⟩
  have branch := branchOf_of_isCb (isCb_decodeCb (s.sample.peek s.sample.pc))
  have none : branchExtra (decodeCb (s.sample.peek s.sample.pc)).form = 0 := by rw [branchExtra, branch]
  have noExtra (k : Nat) (flags : Flags) : extraToCome (decodeCb (s.sample.peek s.sample.pc)).form k flags = 0 := by
    rw [extraToCome, branch]
  obtain ⟨taken, untaken⟩ := counts (decodeCb (s.sample.peek s.sample.pc))
  have count := dispatched.left
  rw [dispatched.remaining_finish whole ran, noExtra]
  simp only [m2] at count
  omega

end Sys2Proof.Machine

namespace Sys2Proof

open Sys2Proof.Machine

/-- Settles O51: the first step of each kind, and from there one remaining step less at each. -/
theorem instructionsTakeTheirDeclaredSteps : Obligations.InstructionsTakeTheirDeclaredSteps := by
  unfold Obligations.InstructionsTakeTheirDeclaredSteps
  intro s inv noReset
  refine ⟨fun goes refuses whole => ?_, fun goes refuses prefixed => ?_, fun goes accepts => ?_, fun idles => ?_⟩
  · obtain ⟨t, first, underway, count⟩ := step_fetches inv noReset goes refuses whole
    rw [← count]
    exact underway.reachesBoundary.run_exactly first
  · obtain ⟨u, c, first, inv', cont, routine, m2⟩ := step_fetches_prefix inv goes refuses prefixed
    obtain ⟨t, second, underway, count⟩ := step_dispatches inv' (noReset.step first) cont routine m2
    have left : u.cyclesLeft ≠ 0 := fun e => by simp [inv'.contExists.2 e] at cont
    refine ⟨u, first, ?_⟩
    rw [← count]
    exact (ReachesBoundary.cons second left underway.reachesBoundary).run_exactly first
  · have first : step s = .next s.sample.awake.accepted := by
      rw [step_of_goesOn goes, State.start_of_accepts (s := s.sample.awake) accepts, runSegment_beginInterrupt]
      rfl
    have underway : Underway s.sample.awake.accepted :=
      ⟨inv.sample.accepted accepts, noReset.step first, by rintro c ⟨rfl⟩; exact nofun⟩
    exact underway.reachesBoundary.run_exactly first
  · obtain ⟨left, waits⟩ := idles
    have first : step s = .next s.sample := by
      rcases waits with ⟨stopped, stays⟩ | ⟨stopped, halted, quiet⟩
      · exact step_of_stays_stopped left stopped stays
      · exact step_of_stays_halted left stopped halted quiet
    exact (ReachesBoundary.of_done left (inv.sample.contExists.2 left)).run_exactly first

end Sys2Proof
